-- ==== Sys2Proof/Word.lean ====
section
/-! DEFINITION. The data the whole model is written in: bytes, byte strings and the 6-byte packet. -/

namespace Sys2Proof

/-- A byte: an unsigned 8-bit value, bits numbered 7 down to 0 (00_scope.md R11). -/
abbrev Byte := BitVec 8

/-- A string: an ASCII byte string (00_scope.md R11, 93_implementation_defined.md G1). -/
abbrev Text := List Byte

/-- A packet `[p0,p1,p2,p3,p4,p5]`, `p0` first on the wire (00_scope.md R11, 20_memory.md R32,
30_encoding.md R46). Byte 0 is the opcode, bytes 1 and 2 the payload, bytes 3 to 5 are reserved. -/
structure Packet where
  p0 : Byte
  p1 : Byte
  p2 : Byte
  p3 : Byte
  p4 : Byte
  p5 : Byte
  deriving DecidableEq, Repr

end Sys2Proof
end

