-- ==== Sys2Proof/Config.lean ====
section
/-! DEFINITION. What an implementation fixes: the literals the spec settles, carried as one record
(93_implementation_defined.md I1), the open parameters of 00_scope.md R9 as plain data, and the one
open parameter that is a function, as an opaque constant. -/

namespace Sys2Proof

/-- The numeric literals the spec settles (00_scope.md R8 and the bit masks of the family files). They
stand in one record, so that a chip record can correct one without touching the meanings
(93_implementation_defined.md I1). UNVERIFIED: the source's literals are unaudited (log 21). -/
structure Literals where
  opcStatus : Byte
  opcArmQ : Byte
  opcArmS : Byte
  opcWdctl : Byte
  magicEnable : BitVec 16
  magicDisable : BitVec 16
  timerMax : Nat
  pulseMax : Nat
  pulseTickMs : Nat
  ticksPerSecond : Nat
  delayTable : List Nat
  statusArmed : Byte
  statusCmosGood : Byte
  statusTempGood : Byte
  relayOn : Byte
  relayPulse : Byte
  relayLatch : Byte
  relayInversion : Byte
  buzzerReqShort : Byte
  buzzerReqAnnoying : Byte
  buzzerReqOn : Byte
  buzzerReqOff : Byte
  buzzerReqStore : Byte
  buzzerRepShort : Byte
  buzzerRepContinual : Byte
  buzzerRepOn : Byte
  buzzerRepOff : Byte
  buzzerRepStored : Byte
  deriving DecidableEq, Repr

/-- The values of 00_scope.md R8, 42_status_switches.md R80 and R82, 44_relay.md R101,
45_buzzer.md R108 and R110, and 46_counters_pulse.md R124 (20 ticks a second, 50 ms a tick). -/
def lit : Literals where
  opcStatus := 0x04
  opcArmQ := 0x10
  opcArmS := 0x11
  opcWdctl := 0x30
  magicEnable := 0x5A3C
  magicDisable := 0xA5C3
  timerMax := 65535
  pulseMax := 255
  pulseTickMs := 50
  ticksPerSecond := 20
  delayTable := [5, 10, 30, 60, 300, 600, 1800, 3600]
  statusArmed := 0x80
  statusCmosGood := 0x01
  statusTempGood := 0x02
  relayOn := 0x01
  relayPulse := 0x02
  relayLatch := 0x04
  relayInversion := 0x80
  buzzerReqShort := 0x01
  buzzerReqAnnoying := 0x02
  buzzerReqOn := 0x04
  buzzerReqOff := 0x08
  buzzerReqStore := 0x80
  buzzerRepShort := 0x01
  buzzerRepContinual := 0x02
  buzzerRepOn := 0x04
  buzzerRepOff := 0x08
  buzzerRepStored := 0x80

/-- The open parameters of 00_scope.md R9 that are plain values. The two Booleans SHORT_READ_FATAL and
WARN_ON_INVALID are bits of the register CFG (10_state.md R19); VERSION_RENDER is
`Config.versionRender`. -/
structure Config where
  opcPing : Byte
  opcTemp : Byte
  opcSwitches : Byte
  opcVersion : Byte
  opcSarmQ : Byte
  opcSarmS : Byte
  opcAlarmQ : Byte
  opcAlarmS : Byte
  opcSalarmQ : Byte
  opcSalarmS : Byte
  opcTrigQ : Byte
  opcTrigClr : Byte
  opcCountQ : Byte
  opcCountClr : Byte
  opcRelayQ : Byte
  opcRelayS : Byte
  opcBuzzerQ : Byte
  opcBuzzerS : Byte
  opcPulseQ : Byte
  opcPulseS : Byte
  opcReset : Byte
  resetPayload : BitVec 16
  clearSentinel : Byte
  tempByte : Nat
  switchOnWhenSet : Bool
  deriving DecidableEq, Repr

/-- VERSION_RENDER (00_scope.md R9, 47_other_commands.md R134, 92_eei_decisions.md D22): the text lines
of a version reply, from its two payload bytes. OPEN in the spec: a free value, so it has no body
(log 13). -/
opaque Config.versionRender : Byte → Byte → List Text

/-- The configuration that stands in `State.reset`. DESIGN CHOICE, unsafe (log 3): the spec gives no
value for any opcode parameter, for RESET_PAYLOAD or for COUNTER_CLEAR_SENTINEL, and 00_scope.md R10
asks for distinct opcodes, so the opcodes are 0x40 and up in R9's order and the other two are zero.
TEMP_BYTE and SWITCH_ON_WHEN_SET are R9's decided values. No statement rests on these values. -/
def Config.atReset : Config where
  opcPing := 0x40
  opcTemp := 0x41
  opcSwitches := 0x42
  opcVersion := 0x43
  opcSarmQ := 0x44
  opcSarmS := 0x45
  opcAlarmQ := 0x46
  opcAlarmS := 0x47
  opcSalarmQ := 0x48
  opcSalarmS := 0x49
  opcTrigQ := 0x4A
  opcTrigClr := 0x4B
  opcCountQ := 0x4C
  opcCountClr := 0x4D
  opcRelayQ := 0x4E
  opcRelayS := 0x4F
  opcBuzzerQ := 0x50
  opcBuzzerS := 0x51
  opcPulseQ := 0x52
  opcPulseS := 0x53
  opcReset := 0x54
  resetPayload := 0x0000
  clearSentinel := 0x00
  tempByte := 2
  switchOnWhenSet := true

end Sys2Proof
end

