-- ==== Sys2Proof/Syntax.lean ====
section
/-! DEFINITION. The instructions: one constructor per row of spec/opcode_table.json
(30_encoding.md R51). An operand is what the row's encoding carries: `t` the 16-bit timer value, `v`
the value byte. Rows whose payload is fixed or a configuration parameter have none. -/

namespace Sys2Proof

/-- The 26 request commands of 30_encoding.md R51, in the table's order. -/
inductive Instr where
  | ping
  | temp
  | status
  | switches
  | version
  | armQ
  | armS (t : BitVec 16)
  | sarmQ
  | sarmS (t : BitVec 16)
  | alarmQ
  | alarmS (t : BitVec 16)
  | salarmQ
  | salarmS (t : BitVec 16)
  | trigQ
  | trigClr
  | enable
  | disable
  | relayQ
  | relayS (v : Byte)
  | buzzerQ
  | buzzerS (v : Byte)
  | countQ
  | countClr
  | pulseQ
  | pulseS (v : Byte)
  | reset
  deriving DecidableEq, Repr

end Sys2Proof
end

