-- ==== Sys2Proof/WellFormed.lean ====
section
/-! DEFINITION. Which configurations are admitted (00_scope.md R10) and which instructions the block can
build (30_encoding.md R56). -/

namespace Sys2Proof

/-- The 21 opcode parameters of 00_scope.md R9, in its order. -/
def Config.opcodes (c : Config) : List Byte :=
  [c.opcPing, c.opcTemp, c.opcSwitches, c.opcVersion, c.opcSarmQ, c.opcSarmS, c.opcAlarmQ,
   c.opcAlarmS, c.opcSalarmQ, c.opcSalarmS, c.opcTrigQ, c.opcTrigClr, c.opcCountQ, c.opcCountClr,
   c.opcRelayQ, c.opcRelayS, c.opcBuzzerQ, c.opcBuzzerS, c.opcPulseQ, c.opcPulseS, c.opcReset]

/-- The four opcodes the source settles (00_scope.md R8). -/
def fixedOpcodes : List Byte := [lit.opcStatus, lit.opcArmQ, lit.opcArmS, lit.opcWdctl]

/-- Each settable domain's query and set opcode (30_encoding.md R52). -/
def Config.opcodePairs (c : Config) : List (Byte × Byte) :=
  [(lit.opcArmQ, lit.opcArmS), (c.opcSarmQ, c.opcSarmS), (c.opcAlarmQ, c.opcAlarmS),
   (c.opcSalarmQ, c.opcSalarmS), (c.opcTrigQ, c.opcTrigClr), (c.opcRelayQ, c.opcRelayS),
   (c.opcBuzzerQ, c.opcBuzzerS), (c.opcCountQ, c.opcCountClr), (c.opcPulseQ, c.opcPulseS)]

/-- No byte of the list occurs twice. -/
def pairwiseDistinct : List Byte → Bool
  | [] => true
  | o :: rest => !rest.contains o && pairwiseDistinct rest

/-- 00_scope.md R10, conditions 1 to 4, in its order. Condition 5 (VERSION_RENDER is total) holds of
every Lean function. -/
def Config.wellFormed (c : Config) : Bool :=
  pairwiseDistinct c.opcodes && c.opcodes.all (fun o => !fixedOpcodes.contains o) &&
    c.opcodePairs.all (fun q => q.1 != q.2) && (c.tempByte == 1 || c.tempByte == 2)

/-- The bits no relay token sets: bits 3 to 6 (44_relay.md R101). -/
def relayUnused : Byte :=
  ~~~(lit.relayOn ||| lit.relayPulse ||| lit.relayLatch ||| lit.relayInversion)

/-- The bits no buzzer token sets: bits 4 to 6 (45_buzzer.md R108). -/
def buzzerUnused : Byte :=
  ~~~(lit.buzzerReqShort ||| lit.buzzerReqAnnoying ||| lit.buzzerReqOn ||| lit.buzzerReqOff |||
    lit.buzzerReqStore)

/-- The instructions some command on CMD plans (30_encoding.md R56: no other request can be built). A
relay or buzzer value has none of the bits its encoder never sets (44_relay.md R101,
45_buzzer.md R108; log 18). Every other operand value is reached. -/
def Instr.wf : Instr → Bool
  | .ping => true
  | .temp => true
  | .status => true
  | .switches => true
  | .version => true
  | .armQ => true
  | .armS _ => true
  | .sarmQ => true
  | .sarmS _ => true
  | .alarmQ => true
  | .alarmS _ => true
  | .salarmQ => true
  | .salarmS _ => true
  | .trigQ => true
  | .trigClr => true
  | .enable => true
  | .disable => true
  | .relayQ => true
  | .relayS v => v &&& relayUnused == 0
  | .buzzerQ => true
  | .buzzerS v => v &&& buzzerUnused == 0
  | .countQ => true
  | .countClr => true
  | .pulseQ => true
  | .pulseS _ => true
  | .reset => true

end Sys2Proof
end

