-- ==== Sys2Proof/Decode.lean ====
section
/-! DEFINITION. The Packet Codec (40_codec.md), the decoding of a request packet into an instruction
(30_encoding.md R53) and, after it, the encoder (R48, R50, R51). -/

namespace Sys2Proof

/-! ### Byte order and the codec -/

/-- `hi8(t)`: bits 15:8 (00_scope.md R11). -/
def hi8 (t : BitVec 16) : Byte := t.extractLsb' 8 8

/-- `lo8(t)`: bits 7:0 (00_scope.md R11). -/
def lo8 (t : BitVec 16) : Byte := t.extractLsb' 0 8

/-- `be16(h, l)`: big-endian, `h` holds bits 15:8 (00_scope.md R11, 20_memory.md R34). -/
def be16 (h l : Byte) : BitVec 16 := h ++ l

/-- The packet of six zero bytes, as 41_exchange.md R68 writes it into RXBUF. -/
def Packet.zero : Packet := ⟨0, 0, 0, 0, 0, 0⟩

/-- The bytes of a packet in wire order (20_memory.md R32). -/
def Packet.bytes (p : Packet) : List Byte := [p.p0, p.p1, p.p2, p.p3, p.p4, p.p5]

/-- `for i in 0 .. c-1: BUF[i] <- b[i]` for the bytes `b`; the other bytes keep their values
(41_exchange.md R71). -/
def Packet.overwrite (p : Packet) (b : List Byte) : Packet :=
  ⟨b.getD 0 p.p0, b.getD 1 p.p1, b.getD 2 p.p2, b.getD 3 p.p3, b.getD 4 p.p4, b.getD 5 p.p5⟩

/-- ENCODE (40_codec.md R61). -/
def encodePacket (opc f1 f2 : Byte) : Packet := ⟨opc, f1, f2, 0x00, 0x00, 0x00⟩

/-- DECODE (40_codec.md R62): `(opc, f1, f2)`. Bytes 3 to 5 are discarded and nothing is validated. -/
def decodeFields (p : Packet) : Byte × Byte × Byte := (p.p0, p.p1, p.p2)

/-! ### Decoding a request packet -/

/-- Why a byte sequence spells no command of the block (30_encoding.md R47, R53). -/
inductive NoCommand where
  /-- A packet is exactly 6 bytes (R47). -/
  | notSixBytes
  /-- Byte 0 is 0x30 and the payload is neither magic value (R53 step 3). -/
  | wdctlPayload
  /-- No row of the table has the opcode (R53 step 5). -/
  | unknownOpcode
  /-- Bytes 3 to 5 are not all 0x00 (R53 step 6). -/
  | reservedNotZero
  deriving DecidableEq, Repr

/-- What a request packet decodes to: "either one mnemonic or no command" (30_encoding.md R53). -/
inductive Decoded where
  | instr (i : Instr)
  | noCommand (r : NoCommand)
  deriving DecidableEq, Repr

/-- The rows of 30_encoding.md R51 but for opcode 0x30, as (opcode, the instruction of a packet with
that opcode). A timer set reads its value from bytes 1 and 2, a single-byte set from byte 2
(20_memory.md R35). -/
def requestRows (c : Config) : List (Byte × (Packet → Instr)) :=
  [(c.opcPing, fun _ => .ping), (c.opcTemp, fun _ => .temp), (lit.opcStatus, fun _ => .status),
   (c.opcSwitches, fun _ => .switches), (c.opcVersion, fun _ => .version),
   (lit.opcArmQ, fun _ => .armQ), (lit.opcArmS, fun p => .armS (be16 p.p1 p.p2)),
   (c.opcSarmQ, fun _ => .sarmQ), (c.opcSarmS, fun p => .sarmS (be16 p.p1 p.p2)),
   (c.opcAlarmQ, fun _ => .alarmQ), (c.opcAlarmS, fun p => .alarmS (be16 p.p1 p.p2)),
   (c.opcSalarmQ, fun _ => .salarmQ), (c.opcSalarmS, fun p => .salarmS (be16 p.p1 p.p2)),
   (c.opcTrigQ, fun _ => .trigQ), (c.opcTrigClr, fun _ => .trigClr)] ++
  [(c.opcRelayQ, fun _ => .relayQ), (c.opcRelayS, fun p => .relayS p.p2),
   (c.opcBuzzerQ, fun _ => .buzzerQ), (c.opcBuzzerS, fun p => .buzzerS p.p2),
   (c.opcCountQ, fun _ => .countQ), (c.opcCountClr, fun _ => .countClr),
   (c.opcPulseQ, fun _ => .pulseQ), (c.opcPulseS, fun p => .pulseS p.p2),
   (c.opcReset, fun _ => .reset)]

/-- 30_encoding.md R53, steps 1 to 5. DEDUCED (log 17): step 4 looks at the opcode only, so the payload
of a row without an operand is not checked. -/
def decodeOpcode (c : Config) (p : Packet) : Decoded :=
  if p.p0 = lit.opcWdctl then
    if be16 p.p1 p.p2 = lit.magicEnable then .instr .enable
    else if be16 p.p1 p.p2 = lit.magicDisable then .instr .disable
    else .noCommand .wdctlPayload
  else
    match (requestRows c).find? (fun r => r.1 == p.p0) with
    | some r => .instr (r.2 p)
    | none => .noCommand .unknownOpcode

/-- 30_encoding.md R53, all six steps. DEDUCED (log 17): step 6 holds for every packet, those of steps
1, 2 and 4 too. -/
def decodePacket (c : Config) (p : Packet) : Decoded :=
  match decodeOpcode c p with
  | .noCommand r => .noCommand r
  | .instr i =>
    if p.p3 = 0x00 ∧ p.p4 = 0x00 ∧ p.p5 = 0x00 then .instr i else .noCommand .reservedNotZero

/-- Decoding of any byte sequence: total, and a packet is exactly 6 bytes (30_encoding.md R47, R53). -/
def decode (c : Config) : List Byte → Decoded
  | [p0, p1, p2, p3, p4, p5] => decodePacket c ⟨p0, p1, p2, p3, p4, p5⟩
  | _ => .noCommand .notSixBytes

/-! ### Encoding an instruction -/

/-- The opcode of each row of 30_encoding.md R51. -/
def opcodeOf (c : Config) : Instr → Byte
  | .ping => c.opcPing
  | .temp => c.opcTemp
  | .status => lit.opcStatus
  | .switches => c.opcSwitches
  | .version => c.opcVersion
  | .armQ => lit.opcArmQ
  | .armS _ => lit.opcArmS
  | .sarmQ => c.opcSarmQ
  | .sarmS _ => c.opcSarmS
  | .alarmQ => c.opcAlarmQ
  | .alarmS _ => c.opcAlarmS
  | .salarmQ => c.opcSalarmQ
  | .salarmS _ => c.opcSalarmS
  | .trigQ => c.opcTrigQ
  | .trigClr => c.opcTrigClr
  | .enable => lit.opcWdctl
  | .disable => lit.opcWdctl
  | .relayQ => c.opcRelayQ
  | .relayS _ => c.opcRelayS
  | .buzzerQ => c.opcBuzzerQ
  | .buzzerS _ => c.opcBuzzerS
  | .countQ => c.opcCountQ
  | .countClr => c.opcCountClr
  | .pulseQ => c.opcPulseQ
  | .pulseS _ => c.opcPulseS
  | .reset => c.opcReset

/-- Format Q (30_encoding.md R48). -/
def packetQ (opc : Byte) : Packet := ⟨opc, 0x00, 0x00, 0x00, 0x00, 0x00⟩

/-- Format T16, and format M16 with a fixed value (30_encoding.md R48). -/
def packet16 (opc : Byte) (t : BitVec 16) : Packet := ⟨opc, hi8 t, lo8 t, 0x00, 0x00, 0x00⟩

/-- Format B8 (30_encoding.md R48). -/
def packetB8 (opc v : Byte) : Packet := ⟨opc, 0x00, v, 0x00, 0x00, 0x00⟩

/-- The request packet of an instruction (30_encoding.md R48 to R51). -/
def encode (c : Config) (i : Instr) : Packet :=
  match i with
  | .armS t => packet16 (opcodeOf c i) t
  | .sarmS t => packet16 (opcodeOf c i) t
  | .alarmS t => packet16 (opcodeOf c i) t
  | .salarmS t => packet16 (opcodeOf c i) t
  | .trigClr => packetB8 (opcodeOf c i) c.clearSentinel
  | .countClr => packetB8 (opcodeOf c i) c.clearSentinel
  | .relayS v => packetB8 (opcodeOf c i) v
  | .buzzerS v => packetB8 (opcodeOf c i) v
  | .pulseS v => packetB8 (opcodeOf c i) v
  | .enable => packet16 (opcodeOf c i) lit.magicEnable
  | .disable => packet16 (opcodeOf c i) lit.magicDisable
  | .reset => packet16 (opcodeOf c i) c.resetPayload
  | .ping => packetQ (opcodeOf c i)
  | .temp => packetQ (opcodeOf c i)
  | .status => packetQ (opcodeOf c i)
  | .switches => packetQ (opcodeOf c i)
  | .version => packetQ (opcodeOf c i)
  | .armQ => packetQ (opcodeOf c i)
  | .sarmQ => packetQ (opcodeOf c i)
  | .alarmQ => packetQ (opcodeOf c i)
  | .salarmQ => packetQ (opcodeOf c i)
  | .trigQ => packetQ (opcodeOf c i)
  | .relayQ => packetQ (opcodeOf c i)
  | .buzzerQ => packetQ (opcodeOf c i)
  | .countQ => packetQ (opcodeOf c i)
  | .pulseQ => packetQ (opcodeOf c i)

/-! ### The opcode table's numbering -/

/-- The packet a 48-bit word of spec/opcode_table.json spells: "Packet byte 0 is bits 47:40 and byte 5
is bits 7:0" (30_encoding.md, how to read the table). -/
def packetOfWord (w : Nat) : Packet :=
  let b : BitVec 48 := BitVec.ofNat 48 w
  ⟨b.extractLsb' 40 8, b.extractLsb' 32 8, b.extractLsb' 24 8, b.extractLsb' 16 8,
   b.extractLsb' 8 8, b.extractLsb' 0 8⟩

/-- The packet of a table word of `nbits` bits. Every row of the table has 48. DESIGN CHOICE (log 19): a
shorter word holds the packet's first bytes and the rest are 0x00; there is no longer one. -/
def packetOfTableWord (nbits w : Nat) : Option Packet :=
  if nbits ≤ 48 then some (packetOfWord (w * 2 ^ (48 - nbits))) else none

/-- The instruction a configuration's decoder reads from a table word. -/
def decodeWordWith (c : Config) (nbits w : Nat) : Option Instr :=
  match packetOfTableWord nbits w with
  | some p =>
    match decode c p.bytes with
    | .instr i => some i
    | .noCommand _ => none
  | none => none

/-- The instruction the decoder reads from a table word, under the configuration of `State.reset`
(log 3, log 19). -/
def decodeTableWord (nbits w : Nat) : Option Instr := decodeWordWith Config.atReset nbits w

end Sys2Proof
end

