-- ==== Sys2Proof/Machine/State.lean ====
section
/-! DEFINITION. The state of the block: the registers of 10_state.md R14, the configuration of
00_scope.md R9, and the five transaction ports of 00_scope.md R3 as plain data; the faults and refusals
a step can end in; and the state after reset. -/

namespace Sys2Proof.Machine

/-! ### The names the registers encode -/

/-- The 17 actions, in the order of 10_state.md R16. -/
inductive Action where
  | ping
  | temp
  | status
  | switches
  | version
  | armTime
  | storedArmTime
  | alarm
  | storedAlarm
  | trigger
  | enable
  | disable
  | relay
  | buzzer
  | count
  | pulse
  | reset
  deriving DecidableEq, Repr

/-- KIND (10_state.md R14): a query has no argument, a set has one (00_scope.md R13). -/
inductive Kind where
  | query
  | set
  deriving DecidableEq, Repr

/-- The exchange states of 10_state.md R15. -/
inductive Phase where
  | idle
  | write
  | read
  | check
  | fatal
  deriving DecidableEq, Repr

/-- The usage errors of 60_exceptions.md R144. -/
inductive Usage where
  | help
  | range
  | parse
  | negative
  | counterArg
  | noSet
  deriving DecidableEq, Repr

/-- The causes of a fatal stop, codes 1 to 4 of 10_state.md R18. -/
inductive FatalCause where
  | writeErr
  | writeShort
  | readErr
  | readShort
  deriving DecidableEq, Repr

/-- The outcomes of 10_state.md R17. -/
inductive ResultCode where
  | none
  | valid
  | invalidShort
  | invalidMismatch
  | usage (u : Usage)
  | fatalWrite
  | fatalRead
  deriving DecidableEq, Repr

/-! ### Decoded replies -/

/-- STATUS_DECODE's record (42_status_switches.md R80). -/
structure StatusFields where
  armed : Bool
  cmosGood : Bool
  tempGood : Bool
  deriving DecidableEq, Repr

/-- SWITCH_DECODE's record (42_status_switches.md R83); true is ON. -/
structure SwitchFields where
  sw1 : Bool
  sw2 : Bool
  sw3 : Bool
  sw4 : Bool
  sw5 : Bool
  delayIndex : Nat
  delaySeconds : Nat
  deriving DecidableEq, Repr

/-- The relay mode of 44_relay.md R104. -/
inductive RelayMode where
  | latch
  | pulse
  | none
  deriving DecidableEq, Repr

/-- RELAY_DECODE's record (44_relay.md R104). -/
structure RelayFields where
  on : Bool
  mode : RelayMode
  inversion : Bool
  deriving DecidableEq, Repr

/-- BUZZER_DECODE's record (45_buzzer.md R110). -/
structure BuzzerFields where
  shortBeep : Bool
  continualBeep : Bool
  onNote : Bool
  offNote : Bool
  stored : Bool
  deriving DecidableEq, Repr

/-- The decoded record a RES record carries (41_exchange.md R66), one form per reply decode of
30_encoding.md R51. `raw` is a set command's F1 and F2. -/
inductive Fields where
  | status (f : StatusFields)
  | switches (f : SwitchFields)
  | timer (seconds : Nat)
  | relay (f : RelayFields)
  | buzzer (f : BuzzerFields)
  | counter (n : Nat)
  | priorCount (n : Nat)
  | pulse (ticks : Nat)
  | temperature (celsius : Int)
  | version (v1 v2 : Byte)
  | raw (f1 f2 : Byte)
  deriving DecidableEq, Repr

/-! ### The ports -/

/-- An offer on CMD: the action and its argument string, or no argument (30_encoding.md R58). DEDUCED
(log 22): CMD carries one of the 17 actions and nothing else. -/
structure Offer where
  act : Action
  arg : Option Text
  deriving DecidableEq, Repr

/-- What ChanWrite returns: `ok(c)` with 0 <= c <= 6, or `err` (20_memory.md R28). -/
inductive WriteResult where
  | ok (c : Fin 7)
  | err
  deriving DecidableEq, Repr

/-- One answer to a ChanWrite. `reached` is how many of the request's bytes reached the card when the
write was incomplete: a free input, so that every start of the request is admitted (20_memory.md R38,
log 15). -/
structure WriteAnswer where
  result : WriteResult
  reached : Fin 7
  deriving DecidableEq, Repr

/-- What ChanRead returns: `ok(c, b)`, where `b` holds the `c` bytes, or `err` (20_memory.md R29). -/
inductive ReadAnswer where
  | ok (b : List Byte)
  | err
  deriving DecidableEq, Repr

/-- An assertion of reset (70_reset_and_hazards.md R159). `cfg` is the host's configuration input, if it
supplies one (10_state.md R27). `reached` is how many bytes of the request had reached the card when
the reset abandons a write (R160): a free input (log 15). -/
structure ResetInput where
  cfg : Option (BitVec 2)
  reached : Fin 7
  deriving DecidableEq, Repr

/-- A record on RES (41_exchange.md R73). -/
structure ResRecord where
  result : BitVec 4
  act : BitVec 5
  kind : BitVec 1
  reply : Option Packet
  fields : Option Fields
  lines : List Text
  deriving DecidableEq, Repr

/-- A record on DIAG: `usage(act, code)` (41_exchange.md R69) or `warn(act, code)` (R74), each with the
ACT number and the RESULT code and no text. -/
inductive DiagRecord where
  | usage (act : BitVec 5) (code : BitVec 4)
  | warn (act : BitVec 5) (code : BitVec 4)
  deriving DecidableEq, Repr

/-- One transaction on a port (00_scope.md R3). -/
inductive PortEvent where
  /-- CMD: the block takes an offer (41_exchange.md R68). -/
  | cmd (o : Offer)
  /-- CHW: ChanWrite of a packet, its answer, and the bytes that reached the card. -/
  | chanWrite (p : Packet) (r : WriteResult) (delivered : List Byte)
  /-- CHW: a ChanWrite a reset abandoned, and the bytes that reached the card. -/
  | writeAbandoned (p : Packet) (delivered : List Byte)
  /-- CHR: ChanRead of at most `max` bytes, and its answer. -/
  | chanRead (max : Nat) (r : ReadAnswer)
  /-- RES: a result record. -/
  | res (r : ResRecord)
  /-- DIAG: a diagnostic record. -/
  | diag (d : DiagRecord)
  deriving DecidableEq, Repr

/-! ### State -/

/-- The block's state. The first ten fields are the registers of 10_state.md R14, each held raw so that
an encoding that is never written can be found and faults (93_implementation_defined.md I10). `config`
is the configuration (00_scope.md R9; log 2). The last five are the ports (log 4). -/
structure State where
  /-- STATE, R15. It stands where an ISA has a program counter. -/
  state : BitVec 3
  /-- ACT, R16. -/
  act : BitVec 5
  /-- KIND: 0 = query, 1 = set. -/
  kind : BitVec 1
  /-- TXBUF, the request packet. -/
  txbuf : Packet
  /-- SENT_OPC, the opcode sent. -/
  sentOpc : Byte
  /-- RXBUF, the reply bytes received. -/
  rxbuf : Packet
  /-- RXCNT, the number of reply bytes received, 0 to 6. -/
  rxcnt : BitVec 3
  /-- RESULT, R17. -/
  result : BitVec 4
  /-- FCAUSE, R18. -/
  fcause : BitVec 3
  /-- CFG, R19: bit 0 WARN_ON_INVALID, bit 1 SHORT_READ_FATAL. -/
  cfg : BitVec 2
  /-- The configuration, which no step writes. -/
  config : Config
  /-- The offers pending on CMD, oldest first (41_exchange.md R75). -/
  cmd : List Offer
  /-- The channel's answers to the next ChanWrites; none left: it does not answer. -/
  chw : List WriteAnswer
  /-- The channel's answers to the next ChanReads; none left: it does not answer. -/
  chr : List ReadAnswer
  /-- The reset input, sampled once a step; past its end reset is not asserted. -/
  rst : List (Option ResetInput)
  /-- The transactions made, oldest first. -/
  ports : List PortEvent
  deriving DecidableEq, Repr

/-- Right after reset (10_state.md R27), with no CFG supplied, nothing offered on CMD, no channel answer
waiting and no transaction made (log 4). The configuration is `Config.atReset` (log 3). -/
def State.reset : State where
  state := 0
  act := 0
  kind := 0
  txbuf := ⟨0, 0, 0, 0, 0, 0⟩
  sentOpc := 0x00
  rxbuf := ⟨0, 0, 0, 0, 0, 0⟩
  rxcnt := 0
  result := 0
  fcause := 0
  cfg := 0
  config := Config.atReset
  cmd := []
  chw := []
  chr := []
  rst := []
  ports := []

/-! ### How a step can stop -/

/-- Why the block stops. -/
inductive Fault where
  /-- A step in FATAL with no reset asserted (41_exchange.md R75, 60_exceptions.md R148: "A model treats
  FATAL as a fault"). Raised by the sequencer and by every instruction's meaning. Safe. -/
  | fatalHold
  /-- In WRITE the channel never answers: stuck (70_reset_and_hazards.md R163,
  93_implementation_defined.md I8). Raised by ChanWrite. Safe. -/
  | writeNeverAnswered
  /-- In READ the channel never answers: stuck (70_reset_and_hazards.md R163,
  93_implementation_defined.md I8). Raised by ChanRead. Safe. -/
  | readNeverAnswered
  /-- STATE holds 5, 6 or 7 (10_state.md R15, 93_implementation_defined.md I10). Raised by the sequencer
  and by every instruction's meaning. Safe. -/
  | badState
  /-- ACT holds 17 to 31 (93_implementation_defined.md I10). Raised by the sequencer. Safe. -/
  | badAct
  /-- RESULT holds 12 to 15 (93_implementation_defined.md I10). Raised by the sequencer. Safe. -/
  | badResult
  /-- FCAUSE holds 5 to 7 (93_implementation_defined.md I10). Raised by the sequencer. Safe. -/
  | badFcause
  /-- In WRITE, READ or CHECK, (ACT, KIND) names no row of 30_encoding.md R51: a set of an action with no
  set operation. No run reaches it (log 12). Raised by the sequencer. Safe. -/
  | noSuchCommand
  deriving DecidableEq, Repr

/-- Why a step is refused. -/
inductive Refusal where
  /-- No meaning is given to the instruction yet. Raised by `exec` alone. Safe. -/
  | notModelled (mnemonic : String)
  /-- The configuration breaks 00_scope.md R10: "The model refuses any other configuration". Raised by the
  sequencer. Safe. -/
  | illFormedConfig
  deriving DecidableEq, Repr

end Sys2Proof.Machine
end

