-- ==== Sys2Proof/Machine/Flags.lean ====
section
/-! DEFINITION. The outcome register and the other encoded registers: the code of each name, the name of
each code, the fields of CFG and the packing of STAT (10_state.md R15 to R20). The block has no other
flags. -/

namespace Sys2Proof.Machine

/-- ACT encodings (10_state.md R16). -/
def Action.code : Action → BitVec 5
  | .ping => 0
  | .temp => 1
  | .status => 2
  | .switches => 3
  | .version => 4
  | .armTime => 5
  | .storedArmTime => 6
  | .alarm => 7
  | .storedAlarm => 8
  | .trigger => 9
  | .enable => 10
  | .disable => 11
  | .relay => 12
  | .buzzer => 13
  | .count => 14
  | .pulse => 15
  | .reset => 16

/-- The action an ACT value names; 17 to 31 are never written (10_state.md R16). -/
def Action.ofCode (a : BitVec 5) : Option Action :=
  match a.toNat with
  | 0 => some .ping
  | 1 => some .temp
  | 2 => some .status
  | 3 => some .switches
  | 4 => some .version
  | 5 => some .armTime
  | 6 => some .storedArmTime
  | 7 => some .alarm
  | 8 => some .storedAlarm
  | 9 => some .trigger
  | 10 => some .enable
  | 11 => some .disable
  | 12 => some .relay
  | 13 => some .buzzer
  | 14 => some .count
  | 15 => some .pulse
  | 16 => some .reset
  | _ => none

/-- KIND encodings (10_state.md R14). -/
def Kind.code : Kind → BitVec 1
  | .query => 0
  | .set => 1

/-- The kind a KIND value names (10_state.md R14). -/
def Kind.ofCode (k : BitVec 1) : Kind := if k = 0 then .query else .set

/-- STATE encodings (10_state.md R15). -/
def Phase.code : Phase → BitVec 3
  | .idle => 0
  | .write => 1
  | .read => 2
  | .check => 3
  | .fatal => 4

/-- The exchange state a STATE value names; 5 to 7 are never written (10_state.md R15). -/
def Phase.ofCode (p : BitVec 3) : Option Phase :=
  match p.toNat with
  | 0 => some .idle
  | 1 => some .write
  | 2 => some .read
  | 3 => some .check
  | 4 => some .fatal
  | _ => none

/-- The RESULT codes of the usage errors (10_state.md R17, 60_exceptions.md R144). -/
def Usage.code : Usage → BitVec 4
  | .help => 4
  | .range => 5
  | .parse => 6
  | .negative => 7
  | .counterArg => 8
  | .noSet => 9

/-- RESULT encodings (10_state.md R17); 12 to 15 are never written. -/
def ResultCode.code : ResultCode → BitVec 4
  | .none => 0
  | .valid => 1
  | .invalidShort => 2
  | .invalidMismatch => 3
  | .usage u => u.code
  | .fatalWrite => 10
  | .fatalRead => 11

/-- FCAUSE encodings (10_state.md R18); 0 is NONE and 5 to 7 are never written. -/
def FatalCause.code : FatalCause → BitVec 3
  | .writeErr => 1
  | .writeShort => 2
  | .readErr => 3
  | .readShort => 4

/-- The RESULT each fatal cause sets (60_exceptions.md R146). -/
def FatalCause.outcome : FatalCause → ResultCode
  | .writeErr => .fatalWrite
  | .writeShort => .fatalWrite
  | .readErr => .fatalRead
  | .readShort => .fatalRead

/-- CFG.WARN_ON_INVALID, bit 0 (10_state.md R19). -/
def State.warnOnInvalid (s : State) : Bool := s.cfg.getLsbD 0

/-- CFG.SHORT_READ_FATAL, bit 1 (10_state.md R19). -/
def State.shortReadFatal (s : State) : Bool := s.cfg.getLsbD 1

/-- The status view STAT (10_state.md R20): STATE in 2:0, RESULT in 6:3, FCAUSE in 9:7, RXCNT in 12:10
and zero in 15:13. A read computes it and changes nothing. -/
def State.stat (s : State) : BitVec 16 :=
  (0 : BitVec 3) ++ s.rxcnt ++ s.fcause ++ s.result ++ s.state

/-- The fault of a never-written encoding found in STATE, ACT, RESULT or FCAUSE, if there is one
(10_state.md R15, 93_implementation_defined.md I10; log 11). -/
def State.neverWritten (s : State) : Option Fault :=
  if 5 ≤ s.state.toNat then some .badState
  else if 17 ≤ s.act.toNat then some .badAct
  else if 12 ≤ s.result.toNat then some .badResult
  else if 5 ≤ s.fcause.toNat then some .badFcause
  else none

end Sys2Proof.Machine
end

