-- ==== Sys2Proof/Machine/Ops.lean ====
section
/-! DEFINITION. The named operations on the registers and the ports: posting records, raising an error,
the four steps of an exchange (41_exchange.md R68 to R73), the running of one command, and reset
(70_reset_and_hazards.md R159). -/

namespace Sys2Proof.Machine

/-! ### Posting -/

/-- One transaction more on the ports. -/
def State.post (e : PortEvent) (s : State) : State := { s with ports := s.ports ++ [e] }

/-! ### Raising an error -/

/-- The errors that end a command (60_exceptions.md R143): `raise Usage(code)` of an action, and
`raise Fatal(cause)` (00_scope.md R11). -/
inductive Raised where
  | usage (act : Action) (u : Usage)
  | fatal (c : FatalCause)
  deriving DecidableEq, Repr

/-- Entry into an error. A usage error writes RESULT, posts `usage(act, code)` on DIAG and leaves STATE
and every other register (41_exchange.md R68, 60_exceptions.md R144). A fatal error writes FCAUSE,
RESULT and STATE = FATAL, keeps the registers of the failed exchange and posts nothing
(60_exceptions.md R146, R148). There is no return operation (R149): a usage error is already back in
IDLE, and FATAL is left only by `hostReset`. -/
def State.raise (r : Raised) (s : State) : State :=
  match r with
  | .usage a u => { s with result := u.code }.post (.diag (.usage a.code u.code))
  | .fatal c => { s with fcause := c.code, result := c.outcome.code, state := Phase.fatal.code }

/-! ### ACCEPT -/

/-- The plan `Tx(opc, f1, f2, kind)` of 41_exchange.md R65, with the action it was planned for. -/
structure Request where
  act : Action
  kind : Kind
  opc : Byte
  f1 : Byte
  f2 : Byte
  deriving DecidableEq, Repr

/-- Taking the oldest offer from CMD (41_exchange.md R68); `rest` stays pending. -/
def State.takeOffer (o : Offer) (rest : List Offer) (s : State) : State :=
  { s with cmd := rest }.post (.cmd o)

/-- The `Tx` arm of ACCEPT (41_exchange.md R68). RESULT keeps its old value. -/
def State.accept (r : Request) (s : State) : State :=
  { s with
    act := r.act.code
    kind := r.kind.code
    txbuf := encodePacket r.opc r.f1 r.f2
    sentOpc := r.opc
    rxbuf := Packet.zero
    rxcnt := 0
    state := Phase.write.code }

/-! ### WRITE -/

/-- The bytes of a request that reached the card. A complete write delivers all six; after an incomplete
or failed one any start of the request is admitted (20_memory.md R38, log 15). -/
def WriteAnswer.delivered (a : WriteAnswer) (p : Packet) : List Byte :=
  match a.result with
  | .ok c => if c = 6 then p.bytes else p.bytes.take a.reached
  | .err => p.bytes.take a.reached

/-- What the WRITE step does with ChanWrite's answer (41_exchange.md R70). -/
def State.afterWrite (r : WriteResult) (s : State) : State :=
  match r with
  | .ok c => if c = 6 then { s with state := Phase.read.code } else s.raise (.fatal .writeShort)
  | .err => s.raise (.fatal .writeErr)

/-- The WRITE step (41_exchange.md R70): one ChanWrite of TXBUF. With no answer the block is stuck
(70_reset_and_hazards.md R163, log 6). -/
def writeStep (s : State) : Host.Outcome State Fault Refusal :=
  match s.chw with
  | [] => .fault .writeNeverAnswered
  | a :: rest =>
    .next (({ s with chw := rest }.post (.chanWrite s.txbuf a.result (a.delivered s.txbuf))).afterWrite
      a.result)

/-! ### READ -/

/-- ChanRead(6) returns at most 6 bytes (20_memory.md R29; log 16). -/
def ReadAnswer.atMostSix : ReadAnswer → ReadAnswer
  | .ok b => .ok (b.take 6)
  | .err => .err

/-- What the READ step does with ChanRead's answer (41_exchange.md R71). -/
def State.afterRead (r : ReadAnswer) (s : State) : State :=
  match r with
  | .err => s.raise (.fatal .readErr)
  | .ok b =>
    let s := { s with rxbuf := s.rxbuf.overwrite b, rxcnt := BitVec.ofNat 3 b.length }
    if b.length < 6 ∧ s.shortReadFatal = true then s.raise (.fatal .readShort)
    else { s with state := Phase.check.code }

/-- The READ step (41_exchange.md R71, R72): one ChanRead(6). With no answer the block is stuck
(70_reset_and_hazards.md R163, log 6). -/
def readStep (s : State) : Host.Outcome State Fault Refusal :=
  match s.chr with
  | [] => .fault .readNeverAnswered
  | a :: rest =>
    .next (({ s with chr := rest }.post (.chanRead 6 a.atMostSix)).afterRead a.atMostSix)

/-! ### CHECK -/

/-- What POST gives (41_exchange.md R66): the decoded record and the text lines. -/
structure Posted where
  fields : Option Fields
  lines : List Text
  deriving DecidableEq, Repr

/-- "6 bytes read, byte 0 echoes SENT_OPC" (41_exchange.md R73). -/
def State.replyValid (s : State) : Bool := s.rxcnt == 6 && s.rxbuf.p0 == s.sentOpc

/-- The RESULT of an invalid reply: short before mismatch (41_exchange.md R73, 60_exceptions.md R147). -/
def State.invalidCode (s : State) : ResultCode :=
  if s.rxcnt.toNat < 6 then .invalidShort else .invalidMismatch

/-- The CHECK step of a command whose reply decoder is `post` (41_exchange.md R73, R74). -/
def State.check (post : Config → Packet → Posted) (s : State) : State :=
  if s.replyValid then
    let p := post s.config s.rxbuf
    { s with result := ResultCode.valid.code, state := Phase.idle.code }.post
      (.res ⟨ResultCode.valid.code, s.act, s.kind, some s.rxbuf, p.fields, p.lines⟩)
  else
    let t := { s with result := s.invalidCode.code, state := Phase.idle.code }.post
      (.res ⟨s.invalidCode.code, s.act, s.kind, none, none, []⟩)
    if s.warnOnInvalid then t.post (.diag (.warn s.act s.invalidCode.code)) else t

/-! ### Running a command -/

/-- The next step of one command: ACCEPT in IDLE, then WRITE, READ and CHECK as STATE says
(41_exchange.md R68 to R73, R77). In FATAL nothing runs (R75). `r` is the command's plan and `post` its
reply decoder. -/
def runCommand (r : Request) (post : Config → Packet → Posted) (s : State) :
    Host.Outcome State Fault Refusal :=
  match Phase.ofCode s.state with
  | some .idle => .next (s.accept r)
  | some .write => writeStep s
  | some .read => readStep s
  | some .check => .next (s.check post)
  | some .fatal => .fault .fatalHold
  | none => .fault .badState

/-! ### Reset -/

/-- The bytes a write abandoned by reset had delivered (70_reset_and_hazards.md R160, log 15). -/
def State.abandon (r : ResetInput) (s : State) : State :=
  if s.state = Phase.write.code then
    s.post (.writeAbandoned s.txbuf (s.txbuf.bytes.take r.reached))
  else s

/-- Reset (70_reset_and_hazards.md R159): every register takes its value of 10_state.md R27 and CFG is
loaded from the host's input, 0 if it supplies none. Pending offers and channel answers stay: the block
does not drain the channel (R160). -/
def State.hostReset (r : ResetInput) (s : State) : State :=
  { s.abandon r with
    state := Phase.idle.code
    act := 0
    kind := 0
    txbuf := Packet.zero
    sentOpc := 0x00
    rxbuf := Packet.zero
    rxcnt := 0
    result := ResultCode.none.code
    fcause := 0
    cfg := r.cfg.getD 0 }

end Sys2Proof.Machine
end

