-- ==== Sys2Proof/Machine/Operands.lean ====
section
/-! DEFINITION. The operand forms: the argument grammars of 30_encoding.md R59 with their parsers and
token encoders, the text helpers they share, and their inverses (how an operand is spelled). -/

namespace Sys2Proof.Machine

/-! ### Text -/

/-- The ASCII bytes of a literal (00_scope.md R11). -/
def ascii (s : String) : Text := s.toList.map (fun c => BitVec.ofNat 8 c.toNat)

/-- The help request "?" (30_encoding.md R60). -/
def helpArg : Text := ascii "?"

/-- `[0-9]`. -/
def isDigit (b : Byte) : Bool := 0x30 ≤ b.toNat && b.toNat ≤ 0x39

/-- `[0-9]+`. -/
def isDecimal (a : Text) : Bool := !a.isEmpty && a.all isDigit

/-- The decimal value of a digit string, an unbounded natural (43_timers.md R87). -/
def decimalValue (a : Text) : Nat := a.foldl (fun n b => 10 * n + (b.toNat - 0x30)) 0

/-- The digit `d` as a byte. -/
def digitByte (d : Nat) : Byte := BitVec.ofNat 8 (0x30 + d)

/-- The decimal digits of `n` in front of `acc`; `fuel` bounds their number. -/
def decimalDigits : Nat → Nat → Text → Text
  | 0, _, acc => acc
  | fuel + 1, n, acc =>
    if n / 10 = 0 then digitByte (n % 10) :: acc
    else decimalDigits fuel (n / 10) (digitByte (n % 10) :: acc)

/-- `dec(n)`: the decimal spelling with no leading zeros (42_status_switches.md R85). -/
def dec (n : Nat) : Text := decimalDigits (n + 1) n []

/-- The decimal spelling of an integer: a leading "-" when negative, no "+" (47_other_commands.md R133). -/
def decInt (t : Int) : Text := if t < 0 then ascii "-" ++ dec t.natAbs else dec t.natAbs

/-- `lower` on one byte: 'A'-'Z' to 'a'-'z', every other byte unchanged (00_scope.md R11). -/
def lowerByte (b : Byte) : Byte := if 0x41 ≤ b.toNat ∧ b.toNat ≤ 0x5A then b + 0x20 else b

/-- `lower(s)` (00_scope.md R11). -/
def lower (a : Text) : Text := a.map lowerByte

/-- The comma. -/
def comma : Byte := 0x2C

/-- `split(s, ',')`: cuts at every comma and keeps empty pieces; "" gives one empty piece
(44_relay.md R102). -/
def splitComma : Text → List Text
  | [] => [[]]
  | b :: rest =>
    if b = comma then [] :: splitComma rest
    else
      match splitComma rest with
      | [] => [[b]]
      | tok :: toks => (b :: tok) :: toks

/-- Tokens joined by commas: the inverse of `splitComma` on comma-free tokens. -/
def joinComma : List Text → Text
  | [] => []
  | [tok] => tok
  | tok :: toks => tok ++ comma :: joinComma toks

/-- `sext_8(b)`: two's complement (00_scope.md R11, 93_implementation_defined.md G2). -/
def sext8 (b : Byte) : Int := if b.toNat < 0x80 then (b.toNat : Int) else (b.toNat : Int) - 256

/-! ### Parsed arguments -/

/-- What a parser gives: `Usage(code)` or `Ok(value)`. -/
inductive Parsed (α : Type) where
  | usage (u : Usage)
  | ok (a : α)
  deriving DecidableEq, Repr

/-- TIMER_PARSE (43_timers.md R87). -/
def timerParse (a : Text) : Parsed (BitVec 16) :=
  if isDecimal a then
    if lit.timerMax < decimalValue a then .usage .range else .ok (BitVec.ofNat 16 (decimalValue a))
  else .usage .parse

/-- One token of RELAY_ENCODE (44_relay.md R102): ON sets bit 0 and OFF clears it, the others are OR'd,
an unrecognized token is skipped. -/
def relayToken (v : Byte) (tok : Text) : Byte :=
  if lower tok = ascii "on" then v ||| lit.relayOn
  else if lower tok = ascii "off" then v &&& ~~~lit.relayOn
  else if lower tok = ascii "pulse" then v ||| lit.relayPulse
  else if lower tok = ascii "latch" then v ||| lit.relayLatch
  else if lower tok = ascii "inversion" then v ||| lit.relayInversion
  else v

/-- RELAY_ENCODE (44_relay.md R102). It never fails. -/
def relayEncode (a : Text) : Byte := (splitComma a).foldl relayToken 0x00

/-- One token of BUZZER_ENCODE (45_buzzer.md R109): every token is OR'd, an unrecognized one skipped. -/
def buzzerToken (v : Byte) (tok : Text) : Byte :=
  if lower tok = ascii "on" then v ||| lit.buzzerReqOn
  else if lower tok = ascii "off" then v ||| lit.buzzerReqOff
  else if lower tok = ascii "short" then v ||| lit.buzzerReqShort
  else if lower tok = ascii "annoying" then v ||| lit.buzzerReqAnnoying
  else if lower tok = ascii "store" then v ||| lit.buzzerReqStore
  else v

/-- BUZZER_ENCODE (45_buzzer.md R109). It never fails. -/
def buzzerEncode (a : Text) : Byte := (splitComma a).foldl buzzerToken 0x00

/-- COUNTER_CLEAR_PARSE (46_counters_pulse.md R117): "0" and nothing else. -/
def counterClearParse (c : Config) (a : Text) : Parsed Byte :=
  if a = ascii "0" then .ok c.clearSentinel else .usage .counterArg

/-- The units a pulse argument may end in (46_counters_pulse.md R124). -/
inductive PulseUnit where
  | ticks
  | ms
  | seconds
  deriving DecidableEq, Repr

/-- The unit a suffix names; the suffixes are lower-case and exact (46_counters_pulse.md R124). -/
def pulseUnit (suffix : Text) : Option PulseUnit :=
  if suffix = [] then some .ticks
  else if suffix = ascii "ms" then some .ms
  else if suffix = ascii "second" then some .seconds
  else if suffix = ascii "seconds" then some .seconds
  else none

/-- The reading of `D ('ms' | 'second' | 'seconds')?` (46_counters_pulse.md R124): the value of the
leading digits, at least one, and the unit of what follows them. No suffix holds a digit, so the digits
are the longest leading run of them (log 25). -/
def pulseGrammar (a : Text) : Option (Nat × PulseUnit) :=
  if (a.takeWhile isDigit).isEmpty then none
  else (pulseUnit (a.dropWhile isDigit)).map (fun u => (decimalValue (a.takeWhile isDigit), u))

/-- The tick count of a value and its unit: "ms" divides by 50, truncating, and "second(s)" multiplies
by 20 (46_counters_pulse.md R124). -/
def pulseTicks (n : Nat) : PulseUnit → Nat
  | .ticks => n
  | .ms => n / lit.pulseTickMs
  | .seconds => n * lit.ticksPerSecond

/-- Whether the argument is "-" followed by a well-formed pulse argument (46_counters_pulse.md R124). -/
def pulseNegative (a : Text) : Bool :=
  match a with
  | b :: rest => b == 0x2D && (pulseGrammar rest).isSome
  | [] => false

/-- PULSE_PARSE (46_counters_pulse.md R124): USAGE_NEGATIVE, then USAGE_PARSE, then USAGE_RANGE
(60_exceptions.md R147). -/
def pulseParse (a : Text) : Parsed Byte :=
  if pulseNegative a then .usage .negative
  else
    match pulseGrammar a with
    | none => .usage .parse
    | some (n, u) =>
      if lit.pulseMax < pulseTicks n u then .usage .range else .ok (BitVec.ofNat 8 (pulseTicks n u))

/-! ### How an operand is spelled on CMD -/

/-- A timer value as the argument that TIMER_PARSE reads back. -/
def spellTimer (t : BitVec 16) : Text := dec t.toNat

/-- A tick count as the argument that PULSE_PARSE reads back. -/
def spellPulse (v : Byte) : Text := dec v.toNat

/-- A token if its bit is set. -/
def tokenIf (v mask : Byte) (tok : String) : List Text := if v &&& mask = 0 then [] else [ascii tok]

/-- A relay value as the argument that RELAY_ENCODE reads back. -/
def spellRelay (v : Byte) : Text :=
  joinComma (tokenIf v lit.relayOn "on" ++ tokenIf v lit.relayPulse "pulse" ++
    tokenIf v lit.relayLatch "latch" ++ tokenIf v lit.relayInversion "inversion")

/-- A buzzer value as the argument that BUZZER_ENCODE reads back. -/
def spellBuzzer (v : Byte) : Text :=
  joinComma (tokenIf v lit.buzzerReqOn "on" ++ tokenIf v lit.buzzerReqOff "off" ++
    tokenIf v lit.buzzerReqShort "short" ++ tokenIf v lit.buzzerReqAnnoying "annoying" ++
    tokenIf v lit.buzzerReqStore "store")

end Sys2Proof.Machine
end

