-- ==== Sys2Proof/Machine/Plan.lean ====
section
/-! DEFINITION. What every command family shares: the common start of PLAN (41_exchange.md R65) and the
reply decoders that more than one family uses (R66). -/

namespace Sys2Proof.Machine

/-- What PLAN gives: `Usage(code)`, or the command that `Tx(opc, f1, f2, kind)` sends
(41_exchange.md R65). The command's own meaning holds its opcode, payload and kind. -/
inductive Planned where
  | usage (u : Usage)
  | tx (i : Instr)
  deriving DecidableEq, Repr

/-- The first lines of every PLAN (41_exchange.md R65): "?" is help whatever the action, an argument to
an action with no set operation is USAGE_NO_SET, no argument is the query, and any other argument goes
to the family's set arm. -/
def planWith (query : Instr) (setArm : Option (Text → Planned)) (arg : Option Text) : Planned :=
  match arg with
  | none => .tx query
  | some a =>
    if a = helpArg then .usage .help
    else
      match setArm with
      | none => .usage .noSet
      | some f => f a

/-- A set arm: parse the argument, then the command of the value. -/
def planParsed {α : Type} (parse : Text → Parsed α) (command : α → Instr) (a : Text) : Planned :=
  match parse a with
  | .usage u => .usage u
  | .ok x => .tx (command x)

/-- The POST of every set command but the counter clear: `raw(rx[1], rx[2])` and no lines
(41_exchange.md R66). -/
def postRaw (_c : Config) (rx : Packet) : Posted := ⟨some (.raw rx.p1 rx.p2), []⟩

/-- The POST of the commands whose reply decodes nothing (47_other_commands.md R131, R135, R138). -/
def postNothing (_c : Config) (_rx : Packet) : Posted := ⟨none, []⟩

end Sys2Proof.Machine
end

