-- ==== Sys2Proof/Machine/Buzzer.lean ====
section
/-! DEFINITION. The buzzer domain (45_buzzer.md). BUZZER_ENCODE stands in Machine/Operands.lean; it and
BUZZER_DECODE are unrelated functions (R114). -/

namespace Sys2Proof.Machine

/-- BUZZER_DECODE (R110). -/
def buzzerDecode (b : Byte) : BuzzerFields where
  shortBeep := b &&& lit.buzzerRepShort != 0
  continualBeep := b &&& lit.buzzerRepContinual != 0
  onNote := b &&& lit.buzzerRepOn != 0
  offNote := b &&& lit.buzzerRepOff != 0
  stored := b &&& lit.buzzerRepStored != 0

/-- A beep's line, with " (stored)" when the stored bit is set (R111). -/
def beepLine (text : Text) (stored : Bool) : Text :=
  if stored then text ++ ascii " (stored)" else text

/-- BUZZER_LINES (R111): zero to four lines. -/
def buzzerLines (z : BuzzerFields) : List Text :=
  (if z.shortBeep then [beepLine (ascii "short beep") z.stored] else []) ++
  (if z.continualBeep then [beepLine (ascii "continual beep") z.stored] else []) ++
  (if z.onNote then [ascii "buzzer is on"] else []) ++
  (if z.offNote then [ascii "buzzer is off"] else [])

/-- POST of BUZZER_Q (R112). -/
def postBuzzer (_c : Config) (rx : Packet) : Posted :=
  ⟨some (.buzzer (buzzerDecode rx.p2)), buzzerLines (buzzerDecode rx.p2)⟩

/-- PLAN of the action buzzer (R112, R113). -/
def planBuzzer (arg : Option Text) : Planned :=
  planWith .buzzerQ (some (fun a => .tx (.buzzerS (buzzerEncode a)))) arg

/-- BUZZER_Q: read the buzzer state (R112). -/
def execBuzzerQ (s : State) : Host.Outcome State Fault Refusal :=
  runCommand ⟨.buzzer, .query, s.config.opcBuzzerQ, 0x00, 0x00⟩ postBuzzer s

/-- BUZZER_S: set the buzzer (R113). -/
def execBuzzerS (v : Byte) (s : State) : Host.Outcome State Fault Refusal :=
  runCommand ⟨.buzzer, .set, s.config.opcBuzzerS, 0x00, v⟩ postRaw s

end Sys2Proof.Machine
end

