-- ==== Sys2Proof/Machine/Control.lean ====
section
/-! DEFINITION. Ping, temperature, version, enable, disable and reset (47_other_commands.md). -/

namespace Sys2Proof.Machine

/-! ### Ping -/

/-- PLAN of the action ping (R131). -/
def planPing (arg : Option Text) : Planned := planWith .ping none arg

/-- PING: ping the card (R131). -/
def execPing (s : State) : Host.Outcome State Fault Refusal :=
  runCommand ⟨.ping, .query, s.config.opcPing, 0x00, 0x00⟩ postNothing s

/-! ### Temperature -/

/-- TEMP_DECODE (R133): whole degrees Celsius, -128 to 127. -/
def tempDecode (b : Byte) : Int := sext8 b

/-- TEMP_LINES (R133). -/
def tempLines (t : Int) : List Text := [decInt t]

/-- `rx[TEMP_BYTE]` (R132, 40_codec.md R64): F1 if TEMP_BYTE = 1, F2 if TEMP_BYTE = 2. -/
def tempField (c : Config) (rx : Packet) : Byte := if c.tempByte = 1 then rx.p1 else rx.p2

/-- POST of TEMP (R132). -/
def postTemp (c : Config) (rx : Packet) : Posted :=
  ⟨some (.temperature (tempDecode (tempField c rx))), tempLines (tempDecode (tempField c rx))⟩

/-- PLAN of the action temp (R132). -/
def planTemp (arg : Option Text) : Planned := planWith .temp none arg

/-- TEMP: read the card's temperature (R132). -/
def execTemp (s : State) : Host.Outcome State Fault Refusal :=
  runCommand ⟨.temp, .query, s.config.opcTemp, 0x00, 0x00⟩ postTemp s

/-! ### Version -/

/-- POST of VERSION (R134): the two raw bytes, and the lines VERSION_RENDER gives for them. -/
def postVersion (_c : Config) (rx : Packet) : Posted :=
  ⟨some (.version rx.p1 rx.p2), Config.versionRender rx.p1 rx.p2⟩

/-- PLAN of the action version (R134). -/
def planVersion (arg : Option Text) : Planned := planWith .version none arg

/-- VERSION: read the card's firmware version (R134). -/
def execVersion (s : State) : Host.Outcome State Fault Refusal :=
  runCommand ⟨.version, .query, s.config.opcVersion, 0x00, 0x00⟩ postVersion s

/-! ### Enable, disable and reset -/

/-- PLAN of the action enable (R136). -/
def planEnable (arg : Option Text) : Planned := planWith .enable none arg

/-- PLAN of the action disable (R137). -/
def planDisable (arg : Option Text) : Planned := planWith .disable none arg

/-- PLAN of the action reset (R138). -/
def planReset (arg : Option Text) : Planned := planWith .reset none arg

/-- ENABLE: arm the watchdog (R136). The reply's payload is not interpreted (R135). -/
def execEnable (s : State) : Host.Outcome State Fault Refusal :=
  runCommand ⟨.enable, .query, lit.opcWdctl, hi8 lit.magicEnable, lo8 lit.magicEnable⟩ postNothing s

/-- DISABLE: disarm the watchdog (R137). The reply's payload is not interpreted (R135). -/
def execDisable (s : State) : Host.Outcome State Fault Refusal :=
  runCommand ⟨.disable, .query, lit.opcWdctl, hi8 lit.magicDisable, lo8 lit.magicDisable⟩
    postNothing s

/-- RESET: ask the card to hard-reset the host (R138). The block sends it as soon as CMD delivers it. -/
def execReset (s : State) : Host.Outcome State Fault Refusal :=
  runCommand
    ⟨.reset, .query, s.config.opcReset, hi8 s.config.resetPayload, lo8 s.config.resetPayload⟩
    postNothing s

end Sys2Proof.Machine
end

