-- ==== Sys2Proof/Machine/CountersPulse.lean ====
section
/-! DEFINITION. The counter and pulse-width domains (46_counters_pulse.md). COUNTER_CLEAR_PARSE and
PULSE_PARSE stand in Machine/Operands.lean. -/

namespace Sys2Proof.Machine

/-! ### Counters -/

/-- COUNTER_DECODE (R116). -/
def counterDecode (b : Byte) : Nat := b.toNat

/-- COUNTER_LINES (R116). -/
def counterLines (n : Nat) : List Text := [dec n]

/-- POST of a counter query (R119, R121). -/
def postCounter (_c : Config) (rx : Packet) : Posted :=
  ⟨some (.counter (counterDecode rx.p2)), counterLines (counterDecode rx.p2)⟩

/-- POST of a counter clear (R118): the prior count. -/
def postPriorCount (_c : Config) (rx : Packet) : Posted :=
  ⟨some (.priorCount rx.p2.toNat), [dec rx.p2.toNat]⟩

/-- PLAN of the action trigger (R119, R120). -/
def planTrigger (c : Config) (arg : Option Text) : Planned :=
  planWith .trigQ (some (planParsed (counterClearParse c) (fun _ => .trigClr))) arg

/-- PLAN of the action count (R121, R122). -/
def planCount (c : Config) (arg : Option Text) : Planned :=
  planWith .countQ (some (planParsed (counterClearParse c) (fun _ => .countClr))) arg

/-- TRIG_Q: read the re-trigger count (R119). -/
def execTrigQ (s : State) : Host.Outcome State Fault Refusal :=
  runCommand ⟨.trigger, .query, s.config.opcTrigQ, 0x00, 0x00⟩ postCounter s

/-- TRIG_CLR: clear the re-trigger count (R120). -/
def execTrigClr (s : State) : Host.Outcome State Fault Refusal :=
  runCommand ⟨.trigger, .set, s.config.opcTrigClr, 0x00, s.config.clearSentinel⟩ postPriorCount s

/-- COUNT_Q: read the reset count (R121). -/
def execCountQ (s : State) : Host.Outcome State Fault Refusal :=
  runCommand ⟨.count, .query, s.config.opcCountQ, 0x00, 0x00⟩ postCounter s

/-- COUNT_CLR: clear the reset count (R122). -/
def execCountClr (s : State) : Host.Outcome State Fault Refusal :=
  runCommand ⟨.count, .set, s.config.opcCountClr, 0x00, s.config.clearSentinel⟩ postPriorCount s

/-! ### Pulse width -/

/-- The bands of R125. -/
inductive PulseBand where
  | default
  | ms
  | oneSecond
  | seconds
  deriving DecidableEq, Repr

/-- PULSE_DECODE (R125): the tick count. -/
def pulseDecode (b : Byte) : Nat := b.toNat

/-- PULSE_BAND (R125). -/
def pulseBand (n : Nat) : PulseBand :=
  if n = 0 then .default else if n ≤ 19 then .ms else if n = 20 then .oneSecond else .seconds

/-- `pad2(k)`: two decimal digits, with a leading zero if `k < 10` (R127). -/
def pad2 (k : Nat) : Text := if k < 10 then ascii "0" ++ dec k else dec k

/-- SEC2 (R127): n/20 to exactly two decimal places. -/
def sec2 (n : Nat) : Text := dec (n / 20) ++ ascii "." ++ pad2 (5 * (n % 20))

/-- PULSE_LINES (R126): one line, by band. -/
def pulseLines (n : Nat) : List Text :=
  match pulseBand n with
  | .default => [ascii "default (3 seconds)"]
  | .ms => [dec n ++ ascii " (" ++ dec (lit.pulseTickMs * n) ++ ascii " ms)"]
  | .oneSecond => [ascii "20 (1 second)"]
  | .seconds => [dec n ++ ascii " (" ++ sec2 n ++ ascii " seconds)"]

/-- POST of PULSE_Q (R129). -/
def postPulse (_c : Config) (rx : Packet) : Posted :=
  ⟨some (.pulse (pulseDecode rx.p2)), pulseLines (pulseDecode rx.p2)⟩

/-- PLAN of the action pulse (R129, R130). -/
def planPulse (arg : Option Text) : Planned :=
  planWith .pulseQ (some (planParsed pulseParse .pulseS)) arg

/-- PULSE_Q: read the pulse width (R129). -/
def execPulseQ (s : State) : Host.Outcome State Fault Refusal :=
  runCommand ⟨.pulse, .query, s.config.opcPulseQ, 0x00, 0x00⟩ postPulse s

/-- PULSE_S: set the pulse width (R130). -/
def execPulseS (v : Byte) (s : State) : Host.Outcome State Fault Refusal :=
  runCommand ⟨.pulse, .set, s.config.opcPulseS, 0x00, v⟩ postRaw s

end Sys2Proof.Machine
end

