-- ==== Sys2Proof/Machine/Relay.lean ====
section
/-! DEFINITION. The relay domain (44_relay.md). RELAY_ENCODE stands in Machine/Operands.lean. -/

namespace Sys2Proof.Machine

/-- RELAY_DECODE (R104): LATCH takes precedence over PULSE. -/
def relayDecode (b : Byte) : RelayFields where
  on := b &&& lit.relayOn != 0
  mode :=
    if b &&& lit.relayLatch != 0 then .latch
    else if b &&& lit.relayPulse != 0 then .pulse
    else .none
  inversion := b &&& lit.relayInversion != 0

/-- RELAY_LINES (R105): the state line always, then the mode line and the inversion line if any. -/
def relayLines (r : RelayFields) : List Text :=
  [if r.on then ascii "relay is on" else ascii "relay is off"] ++
  (match r.mode with
    | .latch => [ascii "relay latches on reset"]
    | .pulse => [ascii "relay pulses on reset"]
    | .none => []) ++
  (if r.inversion then [ascii "relay inversion is active"] else [])

/-- POST of RELAY_Q (R106). -/
def postRelay (_c : Config) (rx : Packet) : Posted :=
  ⟨some (.relay (relayDecode rx.p2)), relayLines (relayDecode rx.p2)⟩

/-- PLAN of the action relay (R106, R107): no parse error exists. -/
def planRelay (arg : Option Text) : Planned :=
  planWith .relayQ (some (fun a => .tx (.relayS (relayEncode a)))) arg

/-- RELAY_Q: read the relay flags (R106). -/
def execRelayQ (s : State) : Host.Outcome State Fault Refusal :=
  runCommand ⟨.relay, .query, s.config.opcRelayQ, 0x00, 0x00⟩ postRelay s

/-- RELAY_S: write the relay flags (R107). -/
def execRelayS (v : Byte) (s : State) : Host.Outcome State Fault Refusal :=
  runCommand ⟨.relay, .set, s.config.opcRelayS, 0x00, v⟩ postRaw s

end Sys2Proof.Machine
end

