-- ==== Sys2Proof/Machine/StatusSwitches.lean ====
section
/-! DEFINITION. The status and dip-switch domains (42_status_switches.md). -/

namespace Sys2Proof.Machine

/-! ### Status -/

/-- STATUS_DECODE (R80). -/
def statusDecode (b : Byte) : StatusFields where
  armed := b &&& lit.statusArmed != 0
  cmosGood := b &&& lit.statusCmosGood != 0
  tempGood := b &&& lit.statusTempGood != 0

/-- STATUS_LINES (R81): three lines. -/
def statusLines (f : StatusFields) : List Text :=
  [if f.armed then ascii "Armed" else ascii "Booting",
   if f.cmosGood then ascii "CMOS is good" else ascii "CMOS is bad",
   if f.tempGood then ascii "temp sensor is good" else ascii "temp sensor is bad"]

/-- POST of STATUS (R79). -/
def postStatus (_c : Config) (rx : Packet) : Posted :=
  ⟨some (.status (statusDecode rx.p2)), statusLines (statusDecode rx.p2)⟩

/-- PLAN of the action status (R79). -/
def planStatus (arg : Option Text) : Planned := planWith .status none arg

/-- STATUS: query the card's status (R79). -/
def execStatus (s : State) : Host.Outcome State Fault Refusal :=
  runCommand ⟨.status, .query, lit.opcStatus, 0x00, 0x00⟩ postStatus s

/-! ### Dip switches -/

/-- Switch `n` (1 to 5) is bit `8 - n`; it is ON when the bit equals SWITCH_ON_WHEN_SET (R83). -/
def switchOn (c : Config) (b : Byte) (n : Nat) : Bool := b.getLsbD (8 - n) == c.switchOnWhenSet

/-- SWITCH_DECODE (R83), with the delay of DELAY_TABLE (R82). -/
def switchDecode (c : Config) (b : Byte) : SwitchFields where
  sw1 := switchOn c b 1
  sw2 := switchOn c b 2
  sw3 := switchOn c b 3
  sw4 := switchOn c b 4
  sw5 := switchOn c b 5
  delayIndex := (b.extractLsb' 0 3).toNat
  delaySeconds := lit.delayTable.getD (b.extractLsb' 0 3).toNat 0

/-- DELAY_PHRASE (R85). -/
def delayPhrase (v : Nat) : Text :=
  if v < 60 then dec v ++ ascii " seconds"
  else if v = 60 then ascii "1 minute"
  else if v < 3600 then dec (v / 60) ++ ascii " minutes"
  else if v = 3600 then ascii "1 hour"
  else dec (v / 3600) ++ ascii " hours"

/-- One switch line of SWITCH_LINES (R86). -/
def switchLine (n : Nat) (on : Bool) : Text :=
  ascii "switch " ++ dec n ++ ascii ": " ++ (if on then ascii "ON" else ascii "OFF")

/-- SWITCH_LINES (R86): six lines. -/
def switchLines (f : SwitchFields) : List Text :=
  [switchLine 1 f.sw1, switchLine 2 f.sw2, switchLine 3 f.sw3, switchLine 4 f.sw4,
   switchLine 5 f.sw5, ascii "delay time: " ++ delayPhrase f.delaySeconds]

/-- POST of SWITCHES (R84). -/
def postSwitches (c : Config) (rx : Packet) : Posted :=
  ⟨some (.switches (switchDecode c rx.p2)), switchLines (switchDecode c rx.p2)⟩

/-- PLAN of the action switches (R84). -/
def planSwitches (arg : Option Text) : Planned := planWith .switches none arg

/-- SWITCHES: query the dip-switch settings (R84). -/
def execSwitches (s : State) : Host.Outcome State Fault Refusal :=
  runCommand ⟨.switches, .query, s.config.opcSwitches, 0x00, 0x00⟩ postSwitches s

end Sys2Proof.Machine
end

