-- ==== Sys2Proof/Machine/Timers.lean ====
section
/-! DEFINITION. The four 16-bit timer domains (43_timers.md): arm time, stored arm time, alarm time and
stored alarm time. -/

namespace Sys2Proof.Machine

/-- TIMER_ENCODE (R88). -/
def timerEncode (t : BitVec 16) : Byte × Byte := (hi8 t, lo8 t)

/-- TIMER_DECODE (R89): unsigned, 0 to 65535. -/
def timerDecode (f1 f2 : Byte) : Nat := (be16 f1 f2).toNat

/-- TIMER_LINES (R89). -/
def timerLines (t : Nat) : List Text := [dec t]

/-- POST of a timer query (R91). -/
def postTimer (_c : Config) (rx : Packet) : Posted :=
  ⟨some (.timer (timerDecode rx.p1 rx.p2)), timerLines (timerDecode rx.p1 rx.p2)⟩

/-- The request of a timer set (R92): format T16. -/
def timerSet (act : Action) (opc : Byte) (t : BitVec 16) : Request :=
  ⟨act, .set, opc, (timerEncode t).1, (timerEncode t).2⟩

/-- PLAN of the action arm-time (R93, R94). -/
def planArmTime (arg : Option Text) : Planned :=
  planWith .armQ (some (planParsed timerParse .armS)) arg

/-- PLAN of the action stored-arm-time (R95, R96). -/
def planStoredArmTime (arg : Option Text) : Planned :=
  planWith .sarmQ (some (planParsed timerParse .sarmS)) arg

/-- PLAN of the action alarm (R97, R98). -/
def planAlarm (arg : Option Text) : Planned :=
  planWith .alarmQ (some (planParsed timerParse .alarmS)) arg

/-- PLAN of the action stored-alarm (R99, R100). -/
def planStoredAlarm (arg : Option Text) : Planned :=
  planWith .salarmQ (some (planParsed timerParse .salarmS)) arg

/-- ARM_Q: read the arm time (R93). -/
def execArmQ (s : State) : Host.Outcome State Fault Refusal :=
  runCommand ⟨.armTime, .query, lit.opcArmQ, 0x00, 0x00⟩ postTimer s

/-- ARM_S: write the arm time (R94). -/
def execArmS (t : BitVec 16) (s : State) : Host.Outcome State Fault Refusal :=
  runCommand (timerSet .armTime lit.opcArmS t) postRaw s

/-- SARM_Q: read the stored arm time (R95). -/
def execSarmQ (s : State) : Host.Outcome State Fault Refusal :=
  runCommand ⟨.storedArmTime, .query, s.config.opcSarmQ, 0x00, 0x00⟩ postTimer s

/-- SARM_S: write the stored arm time (R96). -/
def execSarmS (t : BitVec 16) (s : State) : Host.Outcome State Fault Refusal :=
  runCommand (timerSet .storedArmTime s.config.opcSarmS t) postRaw s

/-- ALARM_Q: read the alarm time (R97). -/
def execAlarmQ (s : State) : Host.Outcome State Fault Refusal :=
  runCommand ⟨.alarm, .query, s.config.opcAlarmQ, 0x00, 0x00⟩ postTimer s

/-- ALARM_S: write the alarm time (R98). -/
def execAlarmS (t : BitVec 16) (s : State) : Host.Outcome State Fault Refusal :=
  runCommand (timerSet .alarm s.config.opcAlarmS t) postRaw s

/-- SALARM_Q: read the stored alarm time (R99). -/
def execSalarmQ (s : State) : Host.Outcome State Fault Refusal :=
  runCommand ⟨.storedAlarm, .query, s.config.opcSalarmQ, 0x00, 0x00⟩ postTimer s

/-- SALARM_S: write the stored alarm time (R100). -/
def execSalarmS (t : BitVec 16) (s : State) : Host.Outcome State Fault Refusal :=
  runCommand (timerSet .storedAlarm s.config.opcSalarmS t) postRaw s

end Sys2Proof.Machine
end

