-- ==== Sys2Proof/Machine/Dispatch.lean ====
section
/-! DEFINITION. One arm per instruction of spec/opcode_table.json. -/

namespace Sys2Proof.Machine

/-- The next step of the command `i`: ACCEPT, WRITE, READ or CHECK as STATE says (log 1). -/
def exec (i : Instr) (s : State) : Host.Outcome State Fault Refusal :=
  match i with
  | .ping => Sys2Proof.Machine.execPing s
  | .temp => Sys2Proof.Machine.execTemp s
  | .status => Sys2Proof.Machine.execStatus s
  | .switches => Sys2Proof.Machine.execSwitches s
  | .version => Sys2Proof.Machine.execVersion s
  | .armQ => Sys2Proof.Machine.execArmQ s
  | .armS t => Sys2Proof.Machine.execArmS t s
  | .sarmQ => Sys2Proof.Machine.execSarmQ s
  | .sarmS t => Sys2Proof.Machine.execSarmS t s
  | .alarmQ => Sys2Proof.Machine.execAlarmQ s
  | .alarmS t => Sys2Proof.Machine.execAlarmS t s
  | .salarmQ => Sys2Proof.Machine.execSalarmQ s
  | .salarmS t => Sys2Proof.Machine.execSalarmS t s
  | .trigQ => Sys2Proof.Machine.execTrigQ s
  | .trigClr => Sys2Proof.Machine.execTrigClr s
  | .enable => Sys2Proof.Machine.execEnable s
  | .disable => Sys2Proof.Machine.execDisable s
  | .relayQ => Sys2Proof.Machine.execRelayQ s
  | .relayS v => Sys2Proof.Machine.execRelayS v s
  | .buzzerQ => Sys2Proof.Machine.execBuzzerQ s
  | .buzzerS v => Sys2Proof.Machine.execBuzzerS v s
  | .countQ => Sys2Proof.Machine.execCountQ s
  | .countClr => Sys2Proof.Machine.execCountClr s
  | .pulseQ => Sys2Proof.Machine.execPulseQ s
  | .pulseS v => Sys2Proof.Machine.execPulseS v s
  | .reset => Sys2Proof.Machine.execReset s

end Sys2Proof.Machine
end

