-- ==== Sys2Proof/Machine/Sequencer.lean ====
section
/-! DEFINITION. What the block does next: PLAN over all actions (41_exchange.md R65), the command in
flight, and the sequencing around the meanings: reset, never-written encodings, waiting in IDLE, taking
an offer, a usage error, and the FATAL hold (R68, R75, R77). -/

namespace Sys2Proof.Machine

/-! ### PLAN -/

/-- PLAN(act, arg) (41_exchange.md R65, 47_other_commands.md R141). -/
def plan (c : Config) (act : Action) (arg : Option Text) : Planned :=
  match act with
  | .ping => planPing arg
  | .temp => planTemp arg
  | .status => planStatus arg
  | .switches => planSwitches arg
  | .version => planVersion arg
  | .armTime => planArmTime arg
  | .storedArmTime => planStoredArmTime arg
  | .alarm => planAlarm arg
  | .storedAlarm => planStoredAlarm arg
  | .trigger => planTrigger c arg
  | .enable => planEnable arg
  | .disable => planDisable arg
  | .relay => planRelay arg
  | .buzzer => planBuzzer arg
  | .count => planCount c arg
  | .pulse => planPulse arg
  | .reset => planReset arg

/-- The offer on CMD whose plan is the instruction (47_other_commands.md R141). -/
def offerOf : Instr → Offer
  | .ping => ⟨.ping, none⟩
  | .temp => ⟨.temp, none⟩
  | .status => ⟨.status, none⟩
  | .switches => ⟨.switches, none⟩
  | .version => ⟨.version, none⟩
  | .armQ => ⟨.armTime, none⟩
  | .armS t => ⟨.armTime, some (spellTimer t)⟩
  | .sarmQ => ⟨.storedArmTime, none⟩
  | .sarmS t => ⟨.storedArmTime, some (spellTimer t)⟩
  | .alarmQ => ⟨.alarm, none⟩
  | .alarmS t => ⟨.alarm, some (spellTimer t)⟩
  | .salarmQ => ⟨.storedAlarm, none⟩
  | .salarmS t => ⟨.storedAlarm, some (spellTimer t)⟩
  | .trigQ => ⟨.trigger, none⟩
  | .trigClr => ⟨.trigger, some (ascii "0")⟩
  | .enable => ⟨.enable, none⟩
  | .disable => ⟨.disable, none⟩
  | .relayQ => ⟨.relay, none⟩
  | .relayS v => ⟨.relay, some (spellRelay v)⟩
  | .buzzerQ => ⟨.buzzer, none⟩
  | .buzzerS v => ⟨.buzzer, some (spellBuzzer v)⟩
  | .countQ => ⟨.count, none⟩
  | .countClr => ⟨.count, some (ascii "0")⟩
  | .pulseQ => ⟨.pulse, none⟩
  | .pulseS v => ⟨.pulse, some (spellPulse v)⟩
  | .reset => ⟨.reset, none⟩

/-! ### The command in flight -/

/-- The command an exchange is running: its row from ACT and KIND (30_encoding.md R51,
47_other_commands.md R141), its operand from TXBUF. -/
def commandOf (act : Action) (kind : Kind) (tx : Packet) : Option Instr :=
  match act, kind with
  | .ping, .query => some .ping
  | .temp, .query => some .temp
  | .status, .query => some .status
  | .switches, .query => some .switches
  | .version, .query => some .version
  | .armTime, .query => some .armQ
  | .armTime, .set => some (.armS (be16 tx.p1 tx.p2))
  | .storedArmTime, .query => some .sarmQ
  | .storedArmTime, .set => some (.sarmS (be16 tx.p1 tx.p2))
  | .alarm, .query => some .alarmQ
  | .alarm, .set => some (.alarmS (be16 tx.p1 tx.p2))
  | .storedAlarm, .query => some .salarmQ
  | .storedAlarm, .set => some (.salarmS (be16 tx.p1 tx.p2))
  | .trigger, .query => some .trigQ
  | .trigger, .set => some .trigClr
  | .enable, .query => some .enable
  | .disable, .query => some .disable
  | .relay, .query => some .relayQ
  | .relay, .set => some (.relayS tx.p2)
  | .buzzer, .query => some .buzzerQ
  | .buzzer, .set => some (.buzzerS tx.p2)
  | .count, .query => some .countQ
  | .count, .set => some .countClr
  | .pulse, .query => some .pulseQ
  | .pulse, .set => some (.pulseS tx.p2)
  | .reset, .query => some .reset
  | .ping, .set => none
  | .temp, .set => none
  | .status, .set => none
  | .switches, .set => none
  | .version, .set => none
  | .enable, .set => none
  | .disable, .set => none
  | .reset, .set => none

/-- The command in flight, read from ACT, KIND and TXBUF (log 1). -/
def State.inFlight (s : State) : Option Instr :=
  match Action.ofCode s.act with
  | some a => commandOf a (Kind.ofCode s.kind) s.txbuf
  | none => none

/-! ### Sequencing -/

/-- What a step is: the run of one command's next step, or an outcome with no command running. -/
inductive Sequenced where
  | run (i : Instr) (s : State)
  | other (o : Host.Outcome State Fault Refusal)

/-- The next thing in a state with no reset asserted. In IDLE the oldest offer is taken and planned; with
no offer the block waits (log 7). In WRITE, READ and CHECK the command in flight goes on. In FATAL nothing
runs (log 8). -/
def proceed (s : State) : Sequenced :=
  match Phase.ofCode s.state with
  | some .idle =>
    match s.cmd with
    | [] => .other (.next s)
    | o :: rest =>
      match plan s.config o.act o.arg with
      | .usage u => .other (.next ((s.takeOffer o rest).raise (.usage o.act u)))
      | .tx i => .run i (s.takeOffer o rest)
  | some .fatal => .other (.fault .fatalHold)
  | some .write | some .read | some .check =>
    match s.inFlight with
    | some i => .run i s
    | none => .other (.fault .noSuchCommand)
  | none => .other (.fault .badState)

/-- One sampling of the reset input has passed with reset not asserted (log 9). -/
def State.noReset (s : State) : State := { s with rst := s.rst.tail }

/-- The reset assertion this step samples, if there is one (70_reset_and_hazards.md R159; log 9). -/
def State.resetAsserted (s : State) : Option ResetInput := (s.rst.head?).join

/-- The whole sequencing of a step: a configuration that breaks 00_scope.md R10 is refused (log 10);
reset comes before everything else (log 9); a never-written encoding faults (log 11). -/
def nextStep (s : State) : Sequenced :=
  if s.config.wellFormed then
    match s.resetAsserted with
    | some r => .other (.next (s.noReset.hostReset r))
    | none =>
      match s.neverWritten with
      | some f => .other (.fault f)
      | none => proceed s.noReset
  else .other (.refused .illFormedConfig)

/-- The state in which the very next step takes the instruction's offer: IDLE, the offer first on CMD,
and reset not asserted at that step (log 19). An instruction no command spells is not placed (log 18). -/
def State.withInstr (s : State) (i : Instr) : State :=
  if i.wf then { s with state := Phase.idle.code, cmd := offerOf i :: s.cmd, rst := none :: s.rst }
  else s

end Sys2Proof.Machine
end

