-- ==== Sys2Proof/Machine/Step.lean ====
section
/-! DEFINITION. One step of the block, and how an instruction of the opcode table is placed so that the
next step runs it. -/

namespace Sys2Proof.Machine

/-- One step: one transition of 41_exchange.md R77, or the outcome that there is none. -/
def step (s : State) : Host.Outcome State Fault Refusal :=
  match nextStep s with
  | .run i t => exec i t
  | .other o => o

/-- `s` with the instruction that a table word spells, under the configuration of `s`, offered on CMD so
that the very next step runs it (log 19). A word that spells no command changes nothing. -/
def State.withFetchWord (s : State) (nbits w : Nat) : State :=
  match decodeWordWith s.config nbits w with
  | some i => s.withInstr i
  | none => s

end Sys2Proof.Machine
end

