-- ==== Sys2Proof/Safety.lean ====
section
/-! DEFINITION. What counts as a safe run, in the terms the statements use: when a step is taken at all,
the invariant every step keeps, and the states the rules name, written out register by register with the
spec's own numbers. -/

namespace Sys2Proof.Machine

/-- A step is neither refused, nor a reset, nor a fault of a never-written encoding: the configuration
meets 00_scope.md R10, reset is not asserted and every register holds a code some rule writes. -/
structure State.Live (s : State) : Prop where
  config : s.config.wellFormed = true
  noReset : s.resetAsserted = none
  encodings : s.neverWritten = none

/-- The invariant of the block. -/
structure State.Inv (s : State) : Prop where
  /-- The configuration meets 00_scope.md R10. -/
  config : s.config.wellFormed = true
  /-- No register holds a never-written encoding (10_state.md R15 to R18). -/
  encodings : s.neverWritten = none
  /-- RXCNT is 0 to 6 (10_state.md R14). -/
  rxcnt : s.rxcnt.toNat ≤ 6
  /-- Bytes 3 to 5 of every request are zero (30_encoding.md R46, R54). -/
  reserved : s.txbuf.p3 = 0 ∧ s.txbuf.p4 = 0 ∧ s.txbuf.p5 = 0
  /-- SENT_OPC is a copy of TXBUF[0] (10_state.md R14). -/
  sent : s.sentOpc = s.txbuf.p0
  /-- FCAUSE is nonzero exactly in FATAL (10_state.md R18). -/
  fcause : s.fcause ≠ 0 ↔ s.state = 4
  /-- RESULT is a fatal code exactly in FATAL (10_state.md R17, 60_exceptions.md R146). -/
  outcome : (s.result = 10 ∨ s.result = 11) ↔ s.state = 4
  /-- In FATAL, RESULT and FCAUSE are a row of 60_exceptions.md R146. -/
  cause : s.state = 4 → (s.result = 10 ∧ (s.fcause = 1 ∨ s.fcause = 2)) ∨
    (s.result = 11 ∧ (s.fcause = 3 ∨ s.fcause = 4))
  /-- Outside IDLE, ACT, KIND and TXBUF hold a command of the table that some offer plans
  (30_encoding.md R56, 60_exceptions.md R148). -/
  command : s.state ≠ 0 → ∃ i, s.inFlight = some i ∧ i.wf = true ∧ s.txbuf = encode s.config i
  /-- Before the reply is read, RXBUF and RXCNT are as 41_exchange.md R68 cleared them. -/
  cleared : s.state = 1 ∨ s.state = 2 → s.rxcnt = 0 ∧ s.rxbuf = ⟨0, 0, 0, 0, 0, 0⟩
  /-- RXBUF[RXCNT..5] are zero (41_exchange.md R71). -/
  zeroTail : ∀ k, s.rxcnt.toNat ≤ k → s.rxbuf.bytes.getD k 0 = 0
  /-- With SHORT_READ_FATAL = 1 no short reply reaches CHECK (41_exchange.md R71). -/
  fullCheck : s.state = 3 → s.cfg.getLsbD 1 = true → s.rxcnt = 6

/-- Every register of 10_state.md R14 at its reset value of R27, with CFG = `cfg`. -/
def State.RegistersReset (s : State) (cfg : BitVec 2) : Prop :=
  s.state = 0 ∧ s.act = 0 ∧ s.kind = 0 ∧ s.txbuf = ⟨0, 0, 0, 0, 0, 0⟩ ∧ s.sentOpc = 0 ∧
    s.rxbuf = ⟨0, 0, 0, 0, 0, 0⟩ ∧ s.rxcnt = 0 ∧ s.result = 0 ∧ s.fcause = 0 ∧ s.cfg = cfg

/-- The state ACCEPT leaves for `Tx(opc, f1, f2, kind)` (41_exchange.md R68): these eight registers are
written, and nothing else. -/
def State.sending (s : State) (act : BitVec 5) (kind : BitVec 1) (opc f1 f2 : Byte) : State :=
  { s with
    act := act
    kind := kind
    txbuf := ⟨opc, f1, f2, 0x00, 0x00, 0x00⟩
    sentOpc := opc
    rxbuf := ⟨0, 0, 0, 0, 0, 0⟩
    rxcnt := 0
    state := 1 }

/-- A CHECK step is about to accept the reply: STATE = CHECK, six bytes were read and byte 0 echoes
SENT_OPC (41_exchange.md R73). -/
def State.HasValidReply (s : State) : Prop :=
  s.state = 3 ∧ s.rxcnt = 6 ∧ s.rxbuf.p0 = s.sentOpc

/-- The state CHECK leaves for a valid reply (41_exchange.md R73): RESULT = VALID, STATE = IDLE, one RES
record with the whole reply, the fields and the lines, and nothing else. -/
def State.answered (s : State) (fields : Option Fields) (lines : List Text) : State :=
  { s with
    result := 1
    state := 0
    ports := s.ports ++ [.res ⟨1, s.act, s.kind, some s.rxbuf, fields, lines⟩] }

/-- The state CHECK leaves for an invalid reply of RESULT `code` (41_exchange.md R73, R74): STATE = IDLE,
one RES record with no data, a warn record when CFG bit 0 is set, and nothing else. -/
def State.skipped (s : State) (code : BitVec 4) : State :=
  { s with
    result := code
    state := 0
    ports := s.ports ++ [.res ⟨code, s.act, s.kind, none, none, []⟩] ++
      (if s.cfg.getLsbD 0 then [.diag (.warn s.act code)] else []) }

/-- The state a fatal error leaves (60_exceptions.md R146, R148): FCAUSE, RESULT and STATE = FATAL are
written, and nothing else. -/
def State.stopped (s : State) (result : BitVec 4) (cause : BitVec 3) : State :=
  { s with fcause := cause, result := result, state := 4 }

/-- The state less the six registers an exchange writes before it reads them (10_state.md R26, R27). -/
def State.withoutExchange (s : State) : State :=
  { s with
    act := 0
    kind := 0
    txbuf := ⟨0, 0, 0, 0, 0, 0⟩
    sentOpc := 0
    rxbuf := ⟨0, 0, 0, 0, 0, 0⟩
    rxcnt := 0 }

/-- A nonempty digit string, `[0-9]+` (30_encoding.md R59). -/
def DigitString (d : Text) : Prop := d ≠ [] ∧ ∀ b ∈ d, 0x30 ≤ b.toNat ∧ b.toNat ≤ 0x39

/-- The positional decimal value of a digit string, most significant digit first. -/
def positionalValue (d : Text) : Nat := Nat.ofDigits 10 ((d.map (fun b => b.toNat - 0x30)).reverse)

/-- The tokens of an argument that are, without regard to case, the word `word`. -/
def HasToken (a : Text) (word : String) : Prop := ∃ tok ∈ splitComma a, lower tok = ascii word

/-- How many ChanWrites the ports record. -/
def writeCount (ports : List PortEvent) : Nat :=
  ports.countP (fun e => match e with | .chanWrite _ _ _ => true | _ => false)

/-- How many ChanReads the ports record. -/
def readCount (ports : List PortEvent) : Nat :=
  ports.countP (fun e => match e with | .chanRead _ _ => true | _ => false)

/-- How many RES records the ports record. -/
def resCount (ports : List PortEvent) : Nat :=
  ports.countP (fun e => match e with | .res _ => true | _ => false)

end Sys2Proof.Machine
end

