-- ==== Sys2Proof/Certificates/Slice0/Obligations.lean ====
section
/-! DEFINITION. The statements for the provers. Every statement quantifies over the configuration, the
channel's answers and the registers, so none rests on a value of `Config.atReset` (log 3) or on the
body of `Config.versionRender` (log 13). Numbers are the spec's own codes. -/

open Sys2Proof Sys2Proof.Machine

/-! ### Reset, the configuration and the invariant -/

/-- 10_state.md R27 (the spec's decision D11): what reset leaves in every register. -/
def Obligations.ResetStateRegisters : Prop := State.reset.RegistersReset 0

/-- The state after reset meets the invariant. Its configuration is the model's choice (log 3). -/
def Obligations.ResetStateMeetsInvariant : Prop := State.reset.Inv

/-- 70_reset_and_hazards.md R159 (decision D11): reset in any state, whatever the registers hold. Pending
offers, channel answers and the configuration stay (R160). -/
def Obligations.ResetAssertedReinitialises : Prop :=
  ∀ (s : State) (r : ResetInput) (later : List (Option ResetInput)),
    s.config.wellFormed = true → s.rst = some r :: later →
    ∃ t, step s = .next t ∧ t.RegistersReset (r.cfg.getD 0) ∧ t.config = s.config ∧
      t.cmd = s.cmd ∧ t.chw = s.chw ∧ t.chr = s.chr ∧ t.rst = later ∧
      t.ports = s.ports ++
        (if s.state = 1 then [.writeAbandoned s.txbuf (s.txbuf.bytes.take r.reached)] else [])

/-- From every state that meets the invariant, a step that goes on gives one that meets it. -/
def Obligations.StepKeepsInvariant : Prop :=
  ∀ s t : State, s.Inv → step s = .next t → t.Inv

/-- 10_state.md R19, R23: no step writes the configuration, and CFG changes only by reset. -/
def Obligations.OnlyResetWritesCfg : Prop :=
  ∀ s t : State, step s = .next t →
    t.config = s.config ∧ (s.resetAsserted = none → t.cfg = s.cfg)

/-- 00_scope.md R10: a configuration that breaks a condition is refused, in every state. -/
def Obligations.IllFormedConfigIsRefused : Prop :=
  ∀ s : State,
    (¬ s.config.opcodes.Nodup ∨ (∃ o ∈ s.config.opcodes, o ∈ [0x04, 0x10, 0x11, 0x30]) ∨
      (s.config.tempByte ≠ 1 ∧ s.config.tempByte ≠ 2)) →
    step s = .refused .illFormedConfig

/-- 10_state.md R15 to R18, 93_implementation_defined.md I10: a never-written encoding faults. -/
def Obligations.NeverWrittenEncodingFaults : Prop :=
  ∀ s : State, s.config.wellFormed = true → s.resetAsserted = none →
    (5 ≤ s.state.toNat ∨ 17 ≤ s.act.toNat ∨ 12 ≤ s.result.toNat ∨ 5 ≤ s.fcause.toNat) →
    ∃ f, step s = .fault f ∧ (f = .badState ∨ f = .badAct ∨ f = .badResult ∨ f = .badFcause)

/-- 10_state.md R20 (decision D34): the fields of STAT. -/
def Obligations.StatPacksRegisters : Prop :=
  ∀ s : State, s.stat.toNat =
    s.state.toNat + 8 * s.result.toNat + 128 * s.fcause.toNat + 1024 * s.rxcnt.toNat

/-! ### The codec, decoding and encoding -/

/-- 40_codec.md R61 and R62: ENCODE and DECODE. -/
def Obligations.CodecEncodesAndDecodes : Prop :=
  (∀ opc f1 f2 : Byte, encodePacket opc f1 f2 = ⟨opc, f1, f2, 0x00, 0x00, 0x00⟩) ∧
  (∀ p0 p1 p2 p3 p4 p5 : Byte, decodeFields ⟨p0, p1, p2, p3, p4, p5⟩ = (p0, p1, p2))

/-- 40_codec.md R63: the round trip, and exactly when the converse holds. -/
def Obligations.CodecRoundTrip : Prop :=
  (∀ opc f1 f2 : Byte, decodeFields (encodePacket opc f1 f2) = (opc, f1, f2)) ∧
  (∀ p : Packet, encodePacket (decodeFields p).1 (decodeFields p).2.1 (decodeFields p).2.2 = p ↔
    p.p3 = 0x00 ∧ p.p4 = 0x00 ∧ p.p5 = 0x00)

/-- Words of spec/opcode_table.json for rows whose opcode the source gives, and their operands. -/
def Obligations.TableWordsDecode : Prop :=
  decodeTableWord 48 0x040000000000 = some .status ∧
  decodeTableWord 48 0x100000000000 = some .armQ ∧
  decodeTableWord 48 0x11012C000000 = some (.armS 300) ∧
  decodeTableWord 48 0x305A3C000000 = some .enable ∧
  decodeTableWord 48 0x30A5C3000000 = some .disable ∧
  decodeTableWord 48 0x300000000000 = none ∧
  decodeTableWord 48 0x040000000001 = none

/-- Decoding an encoded well-formed instruction gives it back, for every admitted configuration and every
operand value. -/
def Obligations.DecodeOfEncodeIsIdentity : Prop :=
  ∀ (c : Config) (i : Instr), c.wellFormed = true → i.wf = true →
    decode c (encode c i).bytes = .instr i

/-- 30_encoding.md R53: what a packet that decodes to a command holds. -/
def Obligations.DecodedCommandHasItsOpcode : Prop :=
  ∀ (c : Config) (b : List Byte) (i : Instr), decode c b = .instr i →
    ∃ p1 p2, b = [opcodeOf c i, p1, p2, 0x00, 0x00, 0x00] ∧
      (i = .enable → p1 = 0x5A ∧ p2 = 0x3C) ∧ (i = .disable → p1 = 0xA5 ∧ p2 = 0xC3) ∧
      (∀ t, i = .armS t ∨ i = .sarmS t ∨ i = .alarmS t ∨ i = .salarmS t →
        t.toNat = p1.toNat * 256 + p2.toNat) ∧
      (∀ v, i = .relayS v ∨ i = .buzzerS v ∨ i = .pulseS v → v = p2)

/-- 30_encoding.md R53 steps 3, 5 and 6, and R47: which byte sequences spell no command. -/
def Obligations.PacketsThatSpellNoCommand : Prop :=
  ∀ (c : Config) (b : List Byte),
    (b.length ≠ 6 ∨ (∃ k, 3 ≤ k ∧ k < 6 ∧ b.getD k 0 ≠ 0) ∨
      (b.head? = some 0x30 ∧ b.getD 1 0 ++ b.getD 2 0 ≠ (0x5A3C : BitVec 16) ∧
        b.getD 1 0 ++ b.getD 2 0 ≠ (0xA5C3 : BitVec 16)) ∨
      (∀ i, b.head? ≠ some (opcodeOf c i))) →
    ∃ r, decode c b = .noCommand r

/-- 43_timers.md R90: the timer round trip. -/
def Obligations.TimerRoundTrip : Prop :=
  ∀ t : BitVec 16, timerDecode (timerEncode t).1 (timerEncode t).2 = t.toNat

/-- 43_timers.md R88, with hi8 and lo8 of 00_scope.md R11. -/
def Obligations.TimerEncodeSplitsBigEndian : Prop :=
  ∀ t : BitVec 16, (timerEncode t).1.toNat = t.toNat / 256 ∧ (timerEncode t).2.toNat = t.toNat % 256

/-! ### A step runs a command -/

/-- In IDLE a step takes the oldest offer and, when PLAN gives a command, runs that command's meaning. -/
def Obligations.StepRunsOfferedCommand : Prop :=
  ∀ (s : State) (o : Offer) (rest : List Offer) (i : Instr),
    s.Live → s.state = 0 → s.cmd = o :: rest → plan s.config o.act o.arg = .tx i →
    step s = exec i
      { s with rst := s.rst.tail, cmd := rest, ports := s.ports ++ [.cmd o] }

/-- In WRITE, READ and CHECK a step goes on with the command in flight. -/
def Obligations.StepRunsCommandInFlight : Prop :=
  ∀ (s : State) (i : Instr),
    s.Live → (s.state = 1 ∨ s.state = 2 ∨ s.state = 3) → s.inFlight = some i →
    step s = exec i { s with rst := s.rst.tail }

/-- A table word that decodes to a well-formed instruction is fetched and run by the very next step. -/
def Obligations.StepRunsDecodedWord : Prop :=
  ∀ (s : State) (w : Nat) (i : Instr),
    s.config.wellFormed = true → ({ s with state := 0 } : State).neverWritten = none →
    decode s.config (packetOfWord w).bytes = .instr i → i.wf = true →
    step (s.withFetchWord 48 w) = exec i
      { s with state := 0, ports := s.ports ++ [.cmd (offerOf i)] }

/-- 30_encoding.md R56: PLAN gives exactly the well-formed instructions. -/
def Obligations.PlannedExactlyWhenWellFormed : Prop :=
  ∀ (c : Config) (i : Instr), i.wf = true ↔ ∃ act arg, plan c act arg = .tx i

/-- The request a meaning sends is the encoder's packet, for all 26 instructions (30_encoding.md R51,
41_exchange.md R68). -/
def Obligations.AcceptSendsTheEncodedPacket : Prop :=
  ∀ (i : Instr) (s : State), s.state = 0 →
    ∃ t, exec i s = .next t ∧ t.txbuf = encode s.config i ∧ t.sentOpc = opcodeOf s.config i ∧
      t.inFlight = some i ∧ t.state = 1

/-- 41_exchange.md R68, the whole ACCEPT step, and where an offer is not taken. -/
def Obligations.AcceptStep : Prop :=
  (∀ (s : State) (o : Offer) (rest : List Offer), s.Live → s.state = 0 → s.cmd = o :: rest →
    (∀ u, plan s.config o.act o.arg = .usage u →
      step s = .next
        { s with
          rst := s.rst.tail
          cmd := rest
          result := u.code
          ports := s.ports ++ [.cmd o, .diag (.usage o.act.code u.code)] }) ∧
    (∀ i, plan s.config o.act o.arg = .tx i →
      step s = .next
        { s with
          rst := s.rst.tail
          cmd := rest
          ports := s.ports ++ [.cmd o]
          act := o.act.code
          kind := if o.arg = none then 0 else 1
          txbuf := encode s.config i
          sentOpc := opcodeOf s.config i
          rxbuf := ⟨0, 0, 0, 0, 0, 0⟩
          rxcnt := 0
          state := 1 })) ∧
  (∀ s t : State, s.state ≠ 0 → step s = .next t → t.cmd = s.cmd)

/-! ### ACCEPT of each request format -/

/-- 30_encoding.md R48, R51: the fourteen format-Q queries (the zero payload is decision D4). -/
def Obligations.QueriesSendFormatQ : Prop :=
  ∀ s : State, s.state = 0 →
    exec .ping s = .next (s.sending 0 0 s.config.opcPing 0 0) ∧
    exec .temp s = .next (s.sending 1 0 s.config.opcTemp 0 0) ∧
    exec .status s = .next (s.sending 2 0 0x04 0 0) ∧
    exec .switches s = .next (s.sending 3 0 s.config.opcSwitches 0 0) ∧
    exec .version s = .next (s.sending 4 0 s.config.opcVersion 0 0) ∧
    exec .armQ s = .next (s.sending 5 0 0x10 0 0) ∧
    exec .sarmQ s = .next (s.sending 6 0 s.config.opcSarmQ 0 0) ∧
    exec .alarmQ s = .next (s.sending 7 0 s.config.opcAlarmQ 0 0) ∧
    exec .salarmQ s = .next (s.sending 8 0 s.config.opcSalarmQ 0 0) ∧
    exec .trigQ s = .next (s.sending 9 0 s.config.opcTrigQ 0 0) ∧
    exec .relayQ s = .next (s.sending 12 0 s.config.opcRelayQ 0 0) ∧
    exec .buzzerQ s = .next (s.sending 13 0 s.config.opcBuzzerQ 0 0) ∧
    exec .countQ s = .next (s.sending 14 0 s.config.opcCountQ 0 0) ∧
    exec .pulseQ s = .next (s.sending 15 0 s.config.opcPulseQ 0 0)

/-- 43_timers.md R94, R96, R98, R100: the four timer sets, format T16. -/
def Obligations.TimerSetsSendFormatT16 : Prop :=
  ∀ (s : State) (h l : Byte), s.state = 0 →
    exec (.armS (h ++ l)) s = .next (s.sending 5 1 0x11 h l) ∧
    exec (.sarmS (h ++ l)) s = .next (s.sending 6 1 s.config.opcSarmS h l) ∧
    exec (.alarmS (h ++ l)) s = .next (s.sending 7 1 s.config.opcAlarmS h l) ∧
    exec (.salarmS (h ++ l)) s = .next (s.sending 8 1 s.config.opcSalarmS h l)

/-- 44_relay.md R107, 45_buzzer.md R113, 46_counters_pulse.md R120, R122, R130: format B8 (byte 1 zero is
decision D5). -/
def Obligations.ByteSetsSendFormatB8 : Prop :=
  ∀ (s : State) (v : Byte), s.state = 0 →
    exec (.relayS v) s = .next (s.sending 12 1 s.config.opcRelayS 0 v) ∧
    exec (.buzzerS v) s = .next (s.sending 13 1 s.config.opcBuzzerS 0 v) ∧
    exec (.pulseS v) s = .next (s.sending 15 1 s.config.opcPulseS 0 v) ∧
    exec .trigClr s = .next (s.sending 9 1 s.config.opcTrigClr 0 s.config.clearSentinel) ∧
    exec .countClr s = .next (s.sending 14 1 s.config.opcCountClr 0 s.config.clearSentinel)

/-- 47_other_commands.md R136 to R138, 30_encoding.md R50: format M16 (the byte split is decision D5). -/
def Obligations.ControlCommandsSendMagic : Prop :=
  ∀ (s : State) (h l : Byte), s.state = 0 →
    exec .enable s = .next (s.sending 10 0 0x30 0x5A 0x3C) ∧
    exec .disable s = .next (s.sending 11 0 0x30 0xA5 0xC3) ∧
    (s.config.resetPayload = h ++ l →
      exec .reset s = .next (s.sending 16 0 s.config.opcReset h l))

/-! ### The channel steps -/

/-- 41_exchange.md R70: the WRITE step of every command, for every answer and for none. That the stuck
block (70_reset_and_hazards.md R163) is the fault `writeNeverAnswered` is log 6, and the delivered bytes
the ports record, after err too, are log 15 (20_memory.md R38). -/
def Obligations.WriteStepOfEveryCommand : Prop :=
  ∀ (i : Instr) (s : State), s.state = 1 →
    (∀ n rest, s.chw = ⟨.ok 6, n⟩ :: rest →
      exec i s = .next
        { s with
          chw := rest
          ports := s.ports ++ [.chanWrite s.txbuf (.ok 6) s.txbuf.bytes]
          state := 2 }) ∧
    (∀ c n rest, s.chw = ⟨.ok c, n⟩ :: rest → c ≠ 6 →
      exec i s = .next (({ s with
        chw := rest
        ports := s.ports ++ [.chanWrite s.txbuf (.ok c) (s.txbuf.bytes.take n)] } : State).stopped
          10 2)) ∧
    (∀ n rest, s.chw = ⟨.err, n⟩ :: rest →
      exec i s = .next (({ s with
        chw := rest
        ports := s.ports ++ [.chanWrite s.txbuf .err (s.txbuf.bytes.take n)] } : State).stopped
          10 1)) ∧
    (s.chw = [] → exec i s = .fault .writeNeverAnswered)

/-- 41_exchange.md R71 (decisions D6, D7): the READ step of every command, for every answer. The reply's
bytes overwrite RXBUF from byte 0; the others keep their values. That the stuck block
(70_reset_and_hazards.md R163) is the fault `readNeverAnswered` is log 6. A list entry of more than six
bytes is no answer of the channel (20_memory.md R29, log 16). -/
def Obligations.ReadStepOfEveryCommand : Prop :=
  ∀ (i : Instr) (s : State), s.state = 2 →
    (∀ b rest, s.chr = .ok b :: rest → b.length ≤ 6 →
      ∃ t : State, (∀ k, k < b.length → t.rxbuf.bytes.getD k 0 = b.getD k 0) ∧
        (∀ k, b.length ≤ k → t.rxbuf.bytes.getD k 0 = s.rxbuf.bytes.getD k 0) ∧
        t.rxcnt.toNat = b.length ∧
        { t with rxbuf := s.rxbuf, rxcnt := s.rxcnt } =
          { s with chr := rest, ports := s.ports ++ [.chanRead 6 (.ok b)] } ∧
        (b.length = 6 ∨ s.cfg.getLsbD 1 = false → exec i s = .next { t with state := 3 }) ∧
        (b.length < 6 → s.cfg.getLsbD 1 = true → exec i s = .next (t.stopped 11 4))) ∧
    (∀ rest, s.chr = .err :: rest →
      exec i s = .next (({ s with
        chr := rest
        ports := s.ports ++ [.chanRead 6 .err] } : State).stopped 11 3)) ∧
    (s.chr = [] → exec i s = .fault .readNeverAnswered)

/-- 41_exchange.md R73 and R74 (decisions D36, D10), 60_exceptions.md R145: an invalid reply of every
command; short comes before mismatch. -/
def Obligations.InvalidReplyIsSkipped : Prop :=
  ∀ (i : Instr) (s : State), s.state = 3 → s.rxcnt.toNat ≤ 6 →
    (s.rxcnt ≠ 6 → exec i s = .next (s.skipped 2)) ∧
    (s.rxcnt = 6 → s.rxbuf.p0 ≠ s.sentOpc → exec i s = .next (s.skipped 3))

/-! ### CHECK of a valid reply, family by family -/

/-- 42_status_switches.md R79 to R81 (three of the texts are decision D28). -/
def Obligations.StatusReplyIsDecoded : Prop :=
  ∀ s : State, s.HasValidReply →
    exec .status s = .next (s.answered
      (some (.status ⟨s.rxbuf.p2.getLsbD 7, s.rxbuf.p2.getLsbD 0, s.rxbuf.p2.getLsbD 1⟩))
      [if s.rxbuf.p2.getLsbD 7 then ascii "Armed" else ascii "Booting",
       if s.rxbuf.p2.getLsbD 0 then ascii "CMOS is good" else ascii "CMOS is bad",
       if s.rxbuf.p2.getLsbD 1 then ascii "temp sensor is good" else ascii "temp sensor is bad"])

/-- 42_status_switches.md R82 to R86 (decisions D27, D29): both polarities and all eight delays. -/
def Obligations.SwitchesReplyIsDecoded : Prop :=
  ∀ (s : State) (delay : Nat) (phrase : Text), s.HasValidReply →
    (s.rxbuf.p2.toNat % 8, delay, phrase) ∈
      [(0, 5, ascii "5 seconds"), (1, 10, ascii "10 seconds"), (2, 30, ascii "30 seconds"),
       (3, 60, ascii "1 minute"), (4, 300, ascii "5 minutes"), (5, 600, ascii "10 minutes"),
       (6, 1800, ascii "30 minutes"), (7, 3600, ascii "1 hour")] →
    ∃ f : SwitchFields,
      f.sw1 = (s.rxbuf.p2.getLsbD 7 == s.config.switchOnWhenSet) ∧
      f.sw2 = (s.rxbuf.p2.getLsbD 6 == s.config.switchOnWhenSet) ∧
      f.sw3 = (s.rxbuf.p2.getLsbD 5 == s.config.switchOnWhenSet) ∧
      f.sw4 = (s.rxbuf.p2.getLsbD 4 == s.config.switchOnWhenSet) ∧
      f.sw5 = (s.rxbuf.p2.getLsbD 3 == s.config.switchOnWhenSet) ∧
      f.delayIndex = s.rxbuf.p2.toNat % 8 ∧ f.delaySeconds = delay ∧
      exec .switches s = .next (s.answered (some (.switches f))
        [ascii "switch 1: " ++ (if f.sw1 then ascii "ON" else ascii "OFF"),
         ascii "switch 2: " ++ (if f.sw2 then ascii "ON" else ascii "OFF"),
         ascii "switch 3: " ++ (if f.sw3 then ascii "ON" else ascii "OFF"),
         ascii "switch 4: " ++ (if f.sw4 then ascii "ON" else ascii "OFF"),
         ascii "switch 5: " ++ (if f.sw5 then ascii "ON" else ascii "OFF"),
         ascii "delay time: " ++ phrase])

/-- 43_timers.md R89, R91, R93, R95, R97, R99 (the line is decision D29). -/
def Obligations.TimerRepliesAreDecoded : Prop :=
  ∀ (s : State) (t : Nat), s.HasValidReply → t = s.rxbuf.p1.toNat * 256 + s.rxbuf.p2.toNat →
    exec .armQ s = .next (s.answered (some (.timer t)) [dec t]) ∧
    exec .sarmQ s = .next (s.answered (some (.timer t)) [dec t]) ∧
    exec .alarmQ s = .next (s.answered (some (.timer t)) [dec t]) ∧
    exec .salarmQ s = .next (s.answered (some (.timer t)) [dec t])

/-- 44_relay.md R104 to R106 (the texts are decision D29). -/
def Obligations.RelayReplyIsDecoded : Prop :=
  ∀ s : State, s.HasValidReply →
    ∃ f : RelayFields, f.on = s.rxbuf.p2.getLsbD 0 ∧ f.inversion = s.rxbuf.p2.getLsbD 7 ∧
      (s.rxbuf.p2.getLsbD 2 = true → f.mode = .latch) ∧
      (s.rxbuf.p2.getLsbD 2 = false → s.rxbuf.p2.getLsbD 1 = true → f.mode = .pulse) ∧
      (s.rxbuf.p2.getLsbD 2 = false → s.rxbuf.p2.getLsbD 1 = false → f.mode = .none) ∧
      exec .relayQ s = .next (s.answered (some (.relay f))
        ([if s.rxbuf.p2.getLsbD 0 then ascii "relay is on" else ascii "relay is off"] ++
         (if s.rxbuf.p2.getLsbD 2 then [ascii "relay latches on reset"]
          else if s.rxbuf.p2.getLsbD 1 then [ascii "relay pulses on reset"] else []) ++
         (if s.rxbuf.p2.getLsbD 7 then [ascii "relay inversion is active"] else [])))

/-- 45_buzzer.md R110 to R112 (the order of the lines is decision D29). -/
def Obligations.BuzzerReplyIsDecoded : Prop :=
  ∀ s : State, s.HasValidReply →
    exec .buzzerQ s = .next (s.answered
      (some (.buzzer ⟨s.rxbuf.p2.getLsbD 0, s.rxbuf.p2.getLsbD 1, s.rxbuf.p2.getLsbD 2,
        s.rxbuf.p2.getLsbD 3, s.rxbuf.p2.getLsbD 7⟩))
      ((if s.rxbuf.p2.getLsbD 0 then
          [if s.rxbuf.p2.getLsbD 7 then ascii "short beep (stored)" else ascii "short beep"]
        else []) ++
       (if s.rxbuf.p2.getLsbD 1 then
          [if s.rxbuf.p2.getLsbD 7 then ascii "continual beep (stored)"
           else ascii "continual beep"]
        else []) ++
       (if s.rxbuf.p2.getLsbD 2 then [ascii "buzzer is on"] else []) ++
       (if s.rxbuf.p2.getLsbD 3 then [ascii "buzzer is off"] else [])))

/-- 46_counters_pulse.md R116, R118 to R122 (the query's line is decision D29). -/
def Obligations.CounterRepliesAreDecoded : Prop :=
  ∀ s : State, s.HasValidReply →
    exec .trigQ s = .next (s.answered (some (.counter s.rxbuf.p2.toNat)) [dec s.rxbuf.p2.toNat]) ∧
    exec .countQ s = .next (s.answered (some (.counter s.rxbuf.p2.toNat)) [dec s.rxbuf.p2.toNat]) ∧
    exec .trigClr s =
      .next (s.answered (some (.priorCount s.rxbuf.p2.toNat)) [dec s.rxbuf.p2.toNat]) ∧
    exec .countClr s =
      .next (s.answered (some (.priorCount s.rxbuf.p2.toNat)) [dec s.rxbuf.p2.toNat])

/-- 46_counters_pulse.md R125 to R129 (the spacing is decision D30): the four bands. -/
def Obligations.PulseReplyIsDecoded : Prop :=
  ∀ (s : State) (n : Nat), s.HasValidReply → n = s.rxbuf.p2.toNat →
    ∃ line, exec .pulseQ s = .next (s.answered (some (.pulse n)) [line]) ∧
      (n = 0 → line = ascii "default (3 seconds)") ∧
      (1 ≤ n → n ≤ 19 → line = dec n ++ ascii " (" ++ dec (50 * n) ++ ascii " ms)") ∧
      (n = 20 → line = ascii "20 (1 second)") ∧
      (21 ≤ n → line = dec n ++ ascii " (" ++ sec2 n ++ ascii " seconds)")

/-- 47_other_commands.md R132, R133 (decisions D21, D29): both values of TEMP_BYTE. -/
def Obligations.TemperatureReplyIsSigned : Prop :=
  ∀ (s : State) (b : Byte) (t : Int), s.HasValidReply →
    (s.config.tempByte = 1 ∧ b = s.rxbuf.p1 ∨ s.config.tempByte = 2 ∧ b = s.rxbuf.p2) →
    -128 ≤ t → t ≤ 127 → t % 256 = b.toNat →
    exec .temp s = .next (s.answered (some (.temperature t))
      [if t < 0 then ascii "-" ++ dec t.natAbs else dec t.natAbs])

/-- 47_other_commands.md R134 (decision D22): the raw bytes; the lines are the open VERSION_RENDER's. -/
def Obligations.VersionReplyIsRaw : Prop :=
  ∀ s : State, s.HasValidReply →
    exec .version s = .next (s.answered (some (.version s.rxbuf.p1 s.rxbuf.p2))
      (Config.versionRender s.rxbuf.p1 s.rxbuf.p2))

/-- 41_exchange.md R66 (decision D26): a set posts the raw F1 and F2 and no lines. -/
def Obligations.SetRepliesAreRaw : Prop :=
  ∀ (s : State) (t : BitVec 16) (v : Byte), s.HasValidReply →
    ∀ i ∈ [Instr.armS t, .sarmS t, .alarmS t, .salarmS t, .relayS v, .buzzerS v, .pulseS v],
      exec i s = .next (s.answered (some (.raw s.rxbuf.p1 s.rxbuf.p2)) [])

/-- 47_other_commands.md R131, R135, R138 (decisions D23 to D25): nothing is decoded. -/
def Obligations.ControlRepliesDecodeNothing : Prop :=
  ∀ s : State, s.HasValidReply → ∀ i ∈ [Instr.ping, .enable, .disable, .reset],
    exec i s = .next (s.answered none [])

/-- 30_encoding.md R54 (decision D12): bytes 3 to 5 of a reply play no part in its validity or in what is
decoded from it, whatever the command. -/
def Obligations.ReservedReplyBytesAreIgnored : Prop :=
  ∀ (i : Instr) (s : State) (b3 b4 b5 : Byte), s.HasValidReply →
    ∃ fields lines, exec i s = .next (s.answered fields lines) ∧
      exec i { s with rxbuf := { s.rxbuf with p3 := b3, p4 := b4, p5 := b5 } } =
        .next (State.answered { s with rxbuf := { s.rxbuf with p3 := b3, p4 := b4, p5 := b5 } }
          fields lines)

/-! ### The decoders alone -/

/-- 42_status_switches.md R80, 44_relay.md R104, 45_buzzer.md R110: STATUS_DECODE, RELAY_DECODE (LATCH
takes precedence) and BUZZER_DECODE, with their masks; every other bit is ignored. -/
def Obligations.DecodersReadTheirMasks : Prop :=
  ∀ b : Byte,
    statusDecode b =
      ⟨decide (b &&& 0x80 ≠ 0), decide (b &&& 0x01 ≠ 0), decide (b &&& 0x02 ≠ 0)⟩ ∧
    (relayDecode b).on = decide (b &&& 0x01 ≠ 0) ∧
    (relayDecode b).inversion = decide (b &&& 0x80 ≠ 0) ∧
    ((relayDecode b).mode = .latch ↔ b &&& 0x04 ≠ 0) ∧
    ((relayDecode b).mode = .pulse ↔ b &&& 0x04 = 0 ∧ b &&& 0x02 ≠ 0) ∧
    ((relayDecode b).mode = .none ↔ b &&& 0x04 = 0 ∧ b &&& 0x02 = 0) ∧
    buzzerDecode b =
      ⟨decide (b &&& 0x01 ≠ 0), decide (b &&& 0x02 ≠ 0), decide (b &&& 0x04 ≠ 0),
        decide (b &&& 0x08 ≠ 0), decide (b &&& 0x80 ≠ 0)⟩

/-- 46_counters_pulse.md R127: SEC2 is n/20 exactly, to two places, for every n. -/
def Obligations.PulseSecondsAreExact : Prop :=
  ∀ n : Nat, ∃ whole cents, sec2 n = whole ++ ascii "." ++ cents ∧ DigitString whole ∧
    DigitString cents ∧ cents.length = 2 ∧
    20 * (100 * positionalValue whole + positionalValue cents) = 100 * n

/-- 42_status_switches.md R85 (`dec`): the decimal spelling has the value it spells and no leading zero. -/
def Obligations.DecimalSpellingIsExact : Prop :=
  ∀ n : Nat, DigitString (dec n) ∧ positionalValue (dec n) = n ∧
    ((dec n).head? = some 0x30 → n = 0 ∧ dec n = [0x30])

/-! ### PLAN and the argument grammars -/

/-- 41_exchange.md R65, 47_other_commands.md R140 (decisions D20, D35): "?" is help for every action, no
argument is the query, and an argument to an action with no set operation is USAGE_NO_SET. -/
def Obligations.PlanHelpQueryAndNoSet : Prop :=
  ∀ c : Config,
    (∀ act, plan c act (some (ascii "?")) = .usage .help) ∧
    (∀ act ∈ [Action.ping, .temp, .status, .switches, .version, .enable, .disable, .reset],
      ∀ a, a ≠ ascii "?" → plan c act (some a) = .usage .noSet) ∧
    (∀ x ∈ [(Action.ping, Instr.ping), (.temp, .temp), (.status, .status), (.switches, .switches),
        (.version, .version), (.armTime, .armQ), (.storedArmTime, .sarmQ), (.alarm, .alarmQ),
        (.storedAlarm, .salarmQ), (.trigger, .trigQ), (.enable, .enable), (.disable, .disable),
        (.relay, .relayQ), (.buzzer, .buzzerQ), (.count, .countQ), (.pulse, .pulseQ),
        (.reset, .reset)],
      plan c x.1 none = .tx x.2)

/-- 43_timers.md R87, R92 (decision D13): the timer argument, for all four timers. -/
def Obligations.TimerArgumentIsPlanned : Prop :=
  ∀ (c : Config) (a : Text), a ≠ ascii "?" →
    ∀ x ∈ [(Action.armTime, Instr.armS), (.storedArmTime, Instr.sarmS), (.alarm, Instr.alarmS),
        (.storedAlarm, Instr.salarmS)],
      (¬ DigitString a → plan c x.1 (some a) = .usage .parse) ∧
      (DigitString a → 65535 < positionalValue a → plan c x.1 (some a) = .usage .range) ∧
      (∀ t : BitVec 16, DigitString a → positionalValue a = t.toNat →
        plan c x.1 (some a) = .tx (x.2 t))

/-- 44_relay.md R102: the split cuts at every comma and keeps every piece. -/
def Obligations.SplitCutsAtEveryComma : Prop :=
  ∀ a : Text, joinComma (splitComma a) = a ∧ splitComma a ≠ [] ∧
    (∀ tok ∈ splitComma a, (0x2C : Byte) ∉ tok) ∧
    (splitComma a).length = a.count 0x2C + 1

/-- 44_relay.md R103, R107 (decision D14): the relay law, on what the action relay plans. -/
def Obligations.RelayArgumentLaw : Prop :=
  ∀ (c : Config) (a : Text), a ≠ ascii "?" →
    ∃ v, plan c .relay (some a) = .tx (.relayS v) ∧
      (v.getLsbD 1 = true ↔ HasToken a "pulse") ∧ (v.getLsbD 2 = true ↔ HasToken a "latch") ∧
      (v.getLsbD 7 = true ↔ HasToken a "inversion") ∧ v &&& 0x78 = 0 ∧
      (v.getLsbD 0 = true ↔
        (((splitComma a).map lower).filter (fun t => t = ascii "on" ∨ t = ascii "off")).getLast? =
          some (ascii "on"))

/-- 45_buzzer.md R109, R113 (decisions D15, D16): every token is additive. -/
def Obligations.BuzzerArgumentIsAdditive : Prop :=
  ∀ (c : Config) (a : Text), a ≠ ascii "?" →
    ∃ v, plan c .buzzer (some a) = .tx (.buzzerS v) ∧
      (v.getLsbD 0 = true ↔ HasToken a "short") ∧ (v.getLsbD 1 = true ↔ HasToken a "annoying") ∧
      (v.getLsbD 2 = true ↔ HasToken a "on") ∧ (v.getLsbD 3 = true ↔ HasToken a "off") ∧
      (v.getLsbD 7 = true ↔ HasToken a "store") ∧ v &&& 0x70 = 0

/-- 46_counters_pulse.md R117, R120, R122 (decision D18): "0" clears, and nothing else does. -/
def Obligations.CounterClearTakesOnlyZero : Prop :=
  ∀ c : Config,
    plan c .trigger (some (ascii "0")) = .tx .trigClr ∧
    plan c .count (some (ascii "0")) = .tx .countClr ∧
    (∀ a, a ≠ ascii "0" → a ≠ ascii "?" →
      plan c .trigger (some a) = .usage .counterArg ∧ plan c .count (some a) = .usage .counterArg)

/-- 46_counters_pulse.md R124, R130 (decision D17): every argument of the pulse grammar, by its suffix. -/
def Obligations.PulseArgumentIsPlanned : Prop :=
  ∀ (c : Config) (d : Text) (x : Text × Nat), DigitString d →
    x ∈ [(([] : Text), positionalValue d), (ascii "ms", positionalValue d / 50),
      (ascii "second", positionalValue d * 20), (ascii "seconds", positionalValue d * 20)] →
    (255 < x.2 → plan c .pulse (some (d ++ x.1)) = .usage .range) ∧
    (∀ v : Byte, x.2 = v.toNat → plan c .pulse (some (d ++ x.1)) = .tx (.pulseS v)) ∧
    plan c .pulse (some (ascii "-" ++ d ++ x.1)) = .usage .negative

/-- 46_counters_pulse.md R124 (decision D17): every other pulse argument is USAGE_PARSE. -/
def Obligations.PulseArgumentOutsideGrammar : Prop :=
  ∀ (c : Config) (a : Text), a ≠ ascii "?" →
    (∀ d suffix, DigitString d →
      suffix ∈ [([] : Text), ascii "ms", ascii "second", ascii "seconds"] →
      a ≠ d ++ suffix ∧ a ≠ ascii "-" ++ d ++ suffix) →
    plan c .pulse (some a) = .usage .parse

/-! ### Whole-machine rules -/

/-- 41_exchange.md R67: a usage error makes no channel transaction. -/
def Obligations.UsageErrorMakesNoTransaction : Prop :=
  ∀ (s t : State) (o : Offer) (rest : List Offer) (u : Usage),
    s.resetAsserted = none → s.state = 0 → s.cmd = o :: rest →
    plan s.config o.act o.arg = .usage u → step s = .next t →
    writeCount t.ports = writeCount s.ports ∧ readCount t.ports = readCount s.ports ∧
      t.chw = s.chw ∧ t.chr = s.chr ∧ t.state = 0

/-- 41_exchange.md R75, 60_exceptions.md R148 (decision D8): nothing runs in FATAL, neither a step nor
any command's meaning. That the hold is a fault is log 8. -/
def Obligations.FatalHoldsUntilReset : Prop :=
  (∀ s : State, s.Live → s.state = 4 → step s = .fault .fatalHold) ∧
  (∀ (i : Instr) (s : State), s.state = 4 → exec i s = .fault .fatalHold) ∧
  (∀ s t : State, s.state = 4 → step s = .next t → s.resetAsserted ≠ none ∧ t.state = 0)

/-- 41_exchange.md R77: no other transition exists. -/
def Obligations.TransitionsAreTheTable : Prop :=
  ∀ s t : State, step s = .next t →
    (s.resetAsserted ≠ none ∧ t.state = 0) ∨
    (s.state = 0 ∧ (t.state = 0 ∨ t.state = 1)) ∨ (s.state = 1 ∧ (t.state = 2 ∨ t.state = 4)) ∨
    (s.state = 2 ∧ (t.state = 3 ∨ t.state = 4)) ∨ (s.state = 3 ∧ t.state = 0)

/-- 20_memory.md R37, R41, 41_exchange.md R72: the ports only grow, and each transaction is made in the
one exchange state that makes it. -/
def Obligations.PortsGrowInTheirStates : Prop :=
  ∀ s t : State, step s = .next t →
    ∃ new, t.ports = s.ports ++ new ∧ writeCount new ≤ 1 ∧ readCount new ≤ 1 ∧ resCount new ≤ 1 ∧
      (∀ p r d, .chanWrite p r d ∈ new → s.state = 1 ∧ p = s.txbuf) ∧
      (∀ m r, .chanRead m r ∈ new → s.state = 2 ∧ m = 6) ∧
      (∀ r, .res r ∈ new → s.state = 3) ∧
      (∀ o, .cmd o ∈ new → s.state = 0 ∧ s.cmd.head? = some o)

/-- 10_state.md R26: ACCEPT overwrites what the last exchange left, and RESULT keeps the last outcome
until the command finishes. -/
def Obligations.NothingCarriesOver : Prop :=
  (∀ (i : Instr) (s s' : State), s.state = 0 → s'.state = 0 →
    s.withoutExchange = s'.withoutExchange → exec i s = exec i s') ∧
  (∀ s t : State, step s = .next t → (t.state = 1 ∨ t.state = 2 ∨ t.state = 3) →
    t.result = s.result)

/-- 41_exchange.md R68 to R73: a command whose write completes and whose reply is valid runs through in
four steps, with exactly these registers and ports written. What the fields and lines are, the CHECK
statements say. -/
def Obligations.ValidExchangeRunsThrough : Prop :=
  ∀ (s : State) (o : Offer) (cmds : List Offer) (i : Instr) (n : Fin 7) (was : List WriteAnswer)
    (b1 b2 b3 b4 b5 : Byte) (ras : List ReadAnswer),
    s.Live → s.rst = [] → s.state = 0 → s.cmd = o :: cmds →
    plan s.config o.act o.arg = .tx i → s.chw = ⟨.ok 6, n⟩ :: was →
    s.chr = .ok [opcodeOf s.config i, b1, b2, b3, b4, b5] :: ras →
    ∃ fields lines,
      Host.Core.run Sys2Proof.core 4 s = .next
        { s with
          state := 0
          act := o.act.code
          kind := if o.arg = none then 0 else 1
          txbuf := encode s.config i
          sentOpc := opcodeOf s.config i
          rxbuf := ⟨opcodeOf s.config i, b1, b2, b3, b4, b5⟩
          rxcnt := 6
          result := 1
          cmd := cmds
          chw := was
          chr := ras
          ports := s.ports ++
            [.cmd o, .chanWrite (encode s.config i) (.ok 6) (encode s.config i).bytes,
             .chanRead 6 (.ok [opcodeOf s.config i, b1, b2, b3, b4, b5]),
             .res ⟨1, o.act.code, if o.arg = none then 0 else 1,
               some ⟨opcodeOf s.config i, b1, b2, b3, b4, b5⟩, fields, lines⟩] }

/-- 41_exchange.md R78, 20_memory.md R37: when the channel answers, whatever it answers, a command ends
within four steps in IDLE or FATAL, after exactly one write and at most one read, with one RES record
exactly when it ends in IDLE. -/
def Obligations.CommandEndsWhenChannelAnswers : Prop :=
  ∀ (s : State) (o : Offer) (cmds : List Offer) (i : Instr) (wa : WriteAnswer)
    (was : List WriteAnswer) (ra : ReadAnswer) (ras : List ReadAnswer),
    s.Live → s.rst = [] → s.state = 0 → s.cmd = o :: cmds →
    plan s.config o.act o.arg = .tx i → s.chw = wa :: was → s.chr = ra :: ras →
    ∃ k t, k ≤ 4 ∧ Host.Core.run Sys2Proof.core k s = .next t ∧
      writeCount t.ports = writeCount s.ports + 1 ∧
      readCount t.ports ≤ readCount s.ports + 1 ∧
      ((t.state = 0 ∧ resCount t.ports = resCount s.ports + 1 ∧
          (t.result = 1 ∨ t.result = 2 ∨ t.result = 3)) ∨
        (t.state = 4 ∧ resCount t.ports = resCount s.ports ∧ (t.result = 10 ∨ t.result = 11)))

/-- 70_reset_and_hazards.md R159: in IDLE with nothing offered the block waits. That the wait is a step
which changes no register is the model's choice (log 7). -/
def Obligations.IdleWaitsForAnOffer : Prop :=
  ∀ s : State, s.Live → s.state = 0 → s.cmd = [] → step s = .next { s with rst := s.rst.tail }
end

