-- ==== Sys2Proof/Laws/Codec.lean ====
section
/-! SUPPORT. The byte order, the opcodes of an admitted configuration and what decoding a row of the
table answers. -/

namespace Sys2Proof

/-! ### Byte order -/

theorem be16_toNat (h l : Byte) : (be16 h l).toNat = h.toNat * 256 + l.toNat := by
  simp only [be16, BitVec.toNat_append]
  rw [← Nat.shiftLeft_add_eq_or_of_lt (by omega)]
  simp [Nat.shiftLeft_eq]

theorem hi8_append (h l : Byte) : hi8 (h ++ l) = h := by
  apply BitVec.eq_of_toNat_eq
  simp only [hi8, BitVec.toNat_append, BitVec.extractLsb'_toNat]
  rw [← Nat.shiftLeft_add_eq_or_of_lt (by omega)]
  simp [Nat.shiftLeft_eq, Nat.shiftRight_eq_div_pow]
  omega

theorem lo8_append (h l : Byte) : lo8 (h ++ l) = l := by
  apply BitVec.eq_of_toNat_eq
  simp only [lo8, BitVec.toNat_append, BitVec.extractLsb'_toNat]
  rw [← Nat.shiftLeft_add_eq_or_of_lt (by omega)]
  simp [Nat.shiftLeft_eq]
  omega

theorem be16_hi8_lo8 (t : BitVec 16) : be16 (hi8 t) (lo8 t) = t := by
  apply BitVec.eq_of_toNat_eq
  rw [be16_toNat]
  simp only [hi8, lo8, BitVec.extractLsb'_toNat]
  have := t.isLt
  simp [Nat.shiftRight_eq_div_pow]
  omega

/-! ### The opcodes of an admitted configuration -/

theorem pairwiseDistinct_nodup {l : List Byte} (h : pairwiseDistinct l = true) : l.Nodup := by
  induction l with
  | nil => simp
  | cons o rest ih =>
    simp only [pairwiseDistinct, Bool.and_eq_true] at h
    exact List.nodup_cons.2 ⟨by simpa using h.1, ih h.2⟩

theorem requestRows_opcodes_perm (c : Config) :
    ((requestRows c).map (·.1)).Perm (c.opcodes ++ [0x04, 0x10, 0x11]) := by
  rw [List.perm_iff_count]
  intro o
  simp only [requestRows, Config.opcodes, lit, List.map_cons, List.map_nil, List.cons_append,
    List.nil_append, List.count_cons, List.count_nil]
  omega

/-- No two rows of the table share an opcode, and no row has WDCTL's. -/
theorem requestRows_opcodes (c : Config) (h : c.wellFormed = true) :
    ((requestRows c).map (·.1)).Nodup ∧ ∀ o ∈ (requestRows c).map (·.1), o ≠ lit.opcWdctl := by
  simp only [Config.wellFormed, Bool.and_eq_true] at h
  obtain ⟨⟨⟨hd, hf⟩, -⟩, -⟩ := h
  rw [List.all_eq_true] at hf
  have hne : ∀ o ∈ c.opcodes, o ≠ 0x04 ∧ o ≠ 0x10 ∧ o ≠ 0x11 ∧ o ≠ 0x30 := by
    intro o ho
    simpa [fixedOpcodes, lit] using hf o ho
  constructor
  · rw [(requestRows_opcodes_perm c).nodup_iff, List.nodup_append]
    refine ⟨pairwiseDistinct_nodup hd, by decide, ?_⟩
    intro o ho o' ho'
    have hn := hne o ho
    simp only [List.mem_cons, List.not_mem_nil, or_false] at ho'
    rcases ho' with rfl | rfl | rfl <;> tauto
  · intro o ho
    rw [(requestRows_opcodes_perm c).mem_iff, List.mem_append] at ho
    rcases ho with ho | ho
    · exact (hne o ho).2.2.2
    · simp only [List.mem_cons, List.not_mem_nil, or_false] at ho
      rcases ho with rfl | rfl | rfl <;> decide

/-! ### Decoding -/

theorem find?_of_nodup {β : Type} {l : List (Byte × β)} (h : (l.map (·.1)).Nodup) {k : Byte} {f : β}
    (hm : (k, f) ∈ l) : l.find? (fun r => r.1 == k) = some (k, f) := by
  induction l with
  | nil => simp at hm
  | cons r l ih =>
    simp only [List.map_cons, List.nodup_cons] at h
    rcases List.mem_cons.1 hm with rfl | hm
    · simp
    · have hr : r.1 ≠ k := by
        rintro rfl
        exact h.1 (List.mem_map.2 ⟨_, hm, rfl⟩)
      rw [List.find?_cons_of_neg (by simpa using hr)]
      exact ih h.2 hm

/-- A packet whose opcode is a row's, with bytes 3 to 5 zero, decodes to that row's instruction. -/
theorem decode_of_row {c : Config} (h : c.wellFormed = true) {p : Packet} {f : Packet → Instr}
    (hm : (p.p0, f) ∈ requestRows c) (hz : p.p3 = 0 ∧ p.p4 = 0 ∧ p.p5 = 0) :
    decode c p.bytes = .instr (f p) := by
  obtain ⟨hn, hw⟩ := requestRows_opcodes c h
  show decodePacket c p = _
  unfold decodePacket decodeOpcode
  rw [if_neg (hw _ (List.mem_map.2 ⟨_, hm, rfl⟩)), find?_of_nodup hn hm]
  simp [hz]

theorem decode_notSixBytes {c : Config} {b : List Byte} (h : b.length ≠ 6) :
    decode c b = .noCommand .notSixBytes := by
  unfold decode
  split
  · simp at h
  · rfl

end Sys2Proof
end

