-- ==== Sys2Proof/Laws/State.lean ====
section
/-! SUPPORT. What each update of State does to each field: one lemma per field per update. -/

namespace Sys2Proof.Machine

section
variable (s : State)

/-! ### post -/

@[simp] theorem State.post_state (e : PortEvent) : (s.post e).state = s.state := rfl
@[simp] theorem State.post_act (e : PortEvent) : (s.post e).act = s.act := rfl
@[simp] theorem State.post_kind (e : PortEvent) : (s.post e).kind = s.kind := rfl
@[simp] theorem State.post_txbuf (e : PortEvent) : (s.post e).txbuf = s.txbuf := rfl
@[simp] theorem State.post_sentOpc (e : PortEvent) : (s.post e).sentOpc = s.sentOpc := rfl
@[simp] theorem State.post_rxbuf (e : PortEvent) : (s.post e).rxbuf = s.rxbuf := rfl
@[simp] theorem State.post_rxcnt (e : PortEvent) : (s.post e).rxcnt = s.rxcnt := rfl
@[simp] theorem State.post_result (e : PortEvent) : (s.post e).result = s.result := rfl
@[simp] theorem State.post_fcause (e : PortEvent) : (s.post e).fcause = s.fcause := rfl
@[simp] theorem State.post_cfg (e : PortEvent) : (s.post e).cfg = s.cfg := rfl
@[simp] theorem State.post_config (e : PortEvent) : (s.post e).config = s.config := rfl
@[simp] theorem State.post_cmd (e : PortEvent) : (s.post e).cmd = s.cmd := rfl
@[simp] theorem State.post_chw (e : PortEvent) : (s.post e).chw = s.chw := rfl
@[simp] theorem State.post_chr (e : PortEvent) : (s.post e).chr = s.chr := rfl
@[simp] theorem State.post_rst (e : PortEvent) : (s.post e).rst = s.rst := rfl
@[simp] theorem State.post_ports (e : PortEvent) : (s.post e).ports = s.ports ++ [e] := rfl

/-! ### raise_usage -/

@[simp] theorem State.raise_usage_state (a : Action) (u : Usage) :
    (s.raise (.usage a u)).state = s.state := rfl
@[simp] theorem State.raise_usage_act (a : Action) (u : Usage) :
    (s.raise (.usage a u)).act = s.act := rfl
@[simp] theorem State.raise_usage_kind (a : Action) (u : Usage) :
    (s.raise (.usage a u)).kind = s.kind := rfl
@[simp] theorem State.raise_usage_txbuf (a : Action) (u : Usage) :
    (s.raise (.usage a u)).txbuf = s.txbuf := rfl
@[simp] theorem State.raise_usage_sentOpc (a : Action) (u : Usage) :
    (s.raise (.usage a u)).sentOpc = s.sentOpc := rfl
@[simp] theorem State.raise_usage_rxbuf (a : Action) (u : Usage) :
    (s.raise (.usage a u)).rxbuf = s.rxbuf := rfl
@[simp] theorem State.raise_usage_rxcnt (a : Action) (u : Usage) :
    (s.raise (.usage a u)).rxcnt = s.rxcnt := rfl
@[simp] theorem State.raise_usage_result (a : Action) (u : Usage) :
    (s.raise (.usage a u)).result = u.code := rfl
@[simp] theorem State.raise_usage_fcause (a : Action) (u : Usage) :
    (s.raise (.usage a u)).fcause = s.fcause := rfl
@[simp] theorem State.raise_usage_cfg (a : Action) (u : Usage) :
    (s.raise (.usage a u)).cfg = s.cfg := rfl
@[simp] theorem State.raise_usage_config (a : Action) (u : Usage) :
    (s.raise (.usage a u)).config = s.config := rfl
@[simp] theorem State.raise_usage_cmd (a : Action) (u : Usage) :
    (s.raise (.usage a u)).cmd = s.cmd := rfl
@[simp] theorem State.raise_usage_chw (a : Action) (u : Usage) :
    (s.raise (.usage a u)).chw = s.chw := rfl
@[simp] theorem State.raise_usage_chr (a : Action) (u : Usage) :
    (s.raise (.usage a u)).chr = s.chr := rfl
@[simp] theorem State.raise_usage_rst (a : Action) (u : Usage) :
    (s.raise (.usage a u)).rst = s.rst := rfl
@[simp] theorem State.raise_usage_ports (a : Action) (u : Usage) :
    (s.raise (.usage a u)).ports = s.ports ++ [.diag (.usage a.code u.code)] := rfl

/-! ### raise_fatal -/

@[simp] theorem State.raise_fatal_state (c : FatalCause) :
    (s.raise (.fatal c)).state = Phase.fatal.code := rfl
@[simp] theorem State.raise_fatal_act (c : FatalCause) : (s.raise (.fatal c)).act = s.act := rfl
@[simp] theorem State.raise_fatal_kind (c : FatalCause) : (s.raise (.fatal c)).kind = s.kind := rfl
@[simp] theorem State.raise_fatal_txbuf (c : FatalCause) :
    (s.raise (.fatal c)).txbuf = s.txbuf := rfl
@[simp] theorem State.raise_fatal_sentOpc (c : FatalCause) :
    (s.raise (.fatal c)).sentOpc = s.sentOpc := rfl
@[simp] theorem State.raise_fatal_rxbuf (c : FatalCause) :
    (s.raise (.fatal c)).rxbuf = s.rxbuf := rfl
@[simp] theorem State.raise_fatal_rxcnt (c : FatalCause) :
    (s.raise (.fatal c)).rxcnt = s.rxcnt := rfl
@[simp] theorem State.raise_fatal_result (c : FatalCause) :
    (s.raise (.fatal c)).result = c.outcome.code := rfl
@[simp] theorem State.raise_fatal_fcause (c : FatalCause) :
    (s.raise (.fatal c)).fcause = c.code := rfl
@[simp] theorem State.raise_fatal_cfg (c : FatalCause) : (s.raise (.fatal c)).cfg = s.cfg := rfl
@[simp] theorem State.raise_fatal_config (c : FatalCause) :
    (s.raise (.fatal c)).config = s.config := rfl
@[simp] theorem State.raise_fatal_cmd (c : FatalCause) : (s.raise (.fatal c)).cmd = s.cmd := rfl
@[simp] theorem State.raise_fatal_chw (c : FatalCause) : (s.raise (.fatal c)).chw = s.chw := rfl
@[simp] theorem State.raise_fatal_chr (c : FatalCause) : (s.raise (.fatal c)).chr = s.chr := rfl
@[simp] theorem State.raise_fatal_rst (c : FatalCause) : (s.raise (.fatal c)).rst = s.rst := rfl
@[simp] theorem State.raise_fatal_ports (c : FatalCause) :
    (s.raise (.fatal c)).ports = s.ports := rfl

/-! ### takeOffer -/

@[simp] theorem State.takeOffer_state (o : Offer) (rest : List Offer) :
    (s.takeOffer o rest).state = s.state := rfl
@[simp] theorem State.takeOffer_act (o : Offer) (rest : List Offer) :
    (s.takeOffer o rest).act = s.act := rfl
@[simp] theorem State.takeOffer_kind (o : Offer) (rest : List Offer) :
    (s.takeOffer o rest).kind = s.kind := rfl
@[simp] theorem State.takeOffer_txbuf (o : Offer) (rest : List Offer) :
    (s.takeOffer o rest).txbuf = s.txbuf := rfl
@[simp] theorem State.takeOffer_sentOpc (o : Offer) (rest : List Offer) :
    (s.takeOffer o rest).sentOpc = s.sentOpc := rfl
@[simp] theorem State.takeOffer_rxbuf (o : Offer) (rest : List Offer) :
    (s.takeOffer o rest).rxbuf = s.rxbuf := rfl
@[simp] theorem State.takeOffer_rxcnt (o : Offer) (rest : List Offer) :
    (s.takeOffer o rest).rxcnt = s.rxcnt := rfl
@[simp] theorem State.takeOffer_result (o : Offer) (rest : List Offer) :
    (s.takeOffer o rest).result = s.result := rfl
@[simp] theorem State.takeOffer_fcause (o : Offer) (rest : List Offer) :
    (s.takeOffer o rest).fcause = s.fcause := rfl
@[simp] theorem State.takeOffer_cfg (o : Offer) (rest : List Offer) :
    (s.takeOffer o rest).cfg = s.cfg := rfl
@[simp] theorem State.takeOffer_config (o : Offer) (rest : List Offer) :
    (s.takeOffer o rest).config = s.config := rfl
@[simp] theorem State.takeOffer_cmd (o : Offer) (rest : List Offer) :
    (s.takeOffer o rest).cmd = rest := rfl
@[simp] theorem State.takeOffer_chw (o : Offer) (rest : List Offer) :
    (s.takeOffer o rest).chw = s.chw := rfl
@[simp] theorem State.takeOffer_chr (o : Offer) (rest : List Offer) :
    (s.takeOffer o rest).chr = s.chr := rfl
@[simp] theorem State.takeOffer_rst (o : Offer) (rest : List Offer) :
    (s.takeOffer o rest).rst = s.rst := rfl
@[simp] theorem State.takeOffer_ports (o : Offer) (rest : List Offer) :
    (s.takeOffer o rest).ports = s.ports ++ [.cmd o] := rfl

/-! ### accept -/

@[simp] theorem State.accept_state (r : Request) : (s.accept r).state = Phase.write.code := rfl
@[simp] theorem State.accept_act (r : Request) : (s.accept r).act = r.act.code := rfl
@[simp] theorem State.accept_kind (r : Request) : (s.accept r).kind = r.kind.code := rfl
@[simp] theorem State.accept_txbuf (r : Request) :
    (s.accept r).txbuf = encodePacket r.opc r.f1 r.f2 := rfl
@[simp] theorem State.accept_sentOpc (r : Request) : (s.accept r).sentOpc = r.opc := rfl
@[simp] theorem State.accept_rxbuf (r : Request) : (s.accept r).rxbuf = Packet.zero := rfl
@[simp] theorem State.accept_rxcnt (r : Request) : (s.accept r).rxcnt = 0 := rfl
@[simp] theorem State.accept_result (r : Request) : (s.accept r).result = s.result := rfl
@[simp] theorem State.accept_fcause (r : Request) : (s.accept r).fcause = s.fcause := rfl
@[simp] theorem State.accept_cfg (r : Request) : (s.accept r).cfg = s.cfg := rfl
@[simp] theorem State.accept_config (r : Request) : (s.accept r).config = s.config := rfl
@[simp] theorem State.accept_cmd (r : Request) : (s.accept r).cmd = s.cmd := rfl
@[simp] theorem State.accept_chw (r : Request) : (s.accept r).chw = s.chw := rfl
@[simp] theorem State.accept_chr (r : Request) : (s.accept r).chr = s.chr := rfl
@[simp] theorem State.accept_rst (r : Request) : (s.accept r).rst = s.rst := rfl
@[simp] theorem State.accept_ports (r : Request) : (s.accept r).ports = s.ports := rfl

/-! ### noReset -/

@[simp] theorem State.noReset_state : s.noReset.state = s.state := rfl
@[simp] theorem State.noReset_act : s.noReset.act = s.act := rfl
@[simp] theorem State.noReset_kind : s.noReset.kind = s.kind := rfl
@[simp] theorem State.noReset_txbuf : s.noReset.txbuf = s.txbuf := rfl
@[simp] theorem State.noReset_sentOpc : s.noReset.sentOpc = s.sentOpc := rfl
@[simp] theorem State.noReset_rxbuf : s.noReset.rxbuf = s.rxbuf := rfl
@[simp] theorem State.noReset_rxcnt : s.noReset.rxcnt = s.rxcnt := rfl
@[simp] theorem State.noReset_result : s.noReset.result = s.result := rfl
@[simp] theorem State.noReset_fcause : s.noReset.fcause = s.fcause := rfl
@[simp] theorem State.noReset_cfg : s.noReset.cfg = s.cfg := rfl
@[simp] theorem State.noReset_config : s.noReset.config = s.config := rfl
@[simp] theorem State.noReset_cmd : s.noReset.cmd = s.cmd := rfl
@[simp] theorem State.noReset_chw : s.noReset.chw = s.chw := rfl
@[simp] theorem State.noReset_chr : s.noReset.chr = s.chr := rfl
@[simp] theorem State.noReset_rst : s.noReset.rst = s.rst.tail := rfl
@[simp] theorem State.noReset_ports : s.noReset.ports = s.ports := rfl

/-! ### abandon and hostReset -/

/-- A reset that abandons a write touches the ports alone. -/
theorem State.abandon_eq (r : ResetInput) :
    s.abandon r = { s with ports := (s.abandon r).ports } := by
  unfold State.abandon; split <;> rfl

theorem State.abandon_ports (r : ResetInput) :
    (s.abandon r).ports = s.ports ++ (if s.state = Phase.write.code then
      [.writeAbandoned s.txbuf (s.txbuf.bytes.take r.reached)] else []) := by
  unfold State.abandon; split <;> simp [State.post]

@[simp] theorem State.hostReset_state (r : ResetInput) :
    (s.hostReset r).state = Phase.idle.code := rfl
@[simp] theorem State.hostReset_act (r : ResetInput) :
    (s.hostReset r).act = 0 := rfl
@[simp] theorem State.hostReset_kind (r : ResetInput) :
    (s.hostReset r).kind = 0 := rfl
@[simp] theorem State.hostReset_txbuf (r : ResetInput) :
    (s.hostReset r).txbuf = Packet.zero := rfl
@[simp] theorem State.hostReset_sentOpc (r : ResetInput) :
    (s.hostReset r).sentOpc = 0x00 := rfl
@[simp] theorem State.hostReset_rxbuf (r : ResetInput) :
    (s.hostReset r).rxbuf = Packet.zero := rfl
@[simp] theorem State.hostReset_rxcnt (r : ResetInput) :
    (s.hostReset r).rxcnt = 0 := rfl
@[simp] theorem State.hostReset_result (r : ResetInput) :
    (s.hostReset r).result = ResultCode.none.code := rfl
@[simp] theorem State.hostReset_fcause (r : ResetInput) :
    (s.hostReset r).fcause = 0 := rfl
@[simp] theorem State.hostReset_cfg (r : ResetInput) :
    (s.hostReset r).cfg = r.cfg.getD 0 := rfl
@[simp] theorem State.hostReset_config (r : ResetInput) : (s.hostReset r).config = s.config := by
  simp only [State.hostReset]; rw [State.abandon_eq]
@[simp] theorem State.hostReset_cmd (r : ResetInput) : (s.hostReset r).cmd = s.cmd := by
  simp only [State.hostReset]; rw [State.abandon_eq]
@[simp] theorem State.hostReset_chw (r : ResetInput) : (s.hostReset r).chw = s.chw := by
  simp only [State.hostReset]; rw [State.abandon_eq]
@[simp] theorem State.hostReset_chr (r : ResetInput) : (s.hostReset r).chr = s.chr := by
  simp only [State.hostReset]; rw [State.abandon_eq]
@[simp] theorem State.hostReset_rst (r : ResetInput) : (s.hostReset r).rst = s.rst := by
  simp only [State.hostReset]; rw [State.abandon_eq]
@[simp] theorem State.hostReset_ports (r : ResetInput) :
    (s.hostReset r).ports = (s.abandon r).ports := rfl

end

end Sys2Proof.Machine
end

