-- ==== Sys2Proof/Laws/Exec.lean ====
section
/-! SUPPORT. What each shared operation, each meaning and a step can do, said once. -/

namespace Sys2Proof.Machine

/-! ### The running of a command, by STATE -/

section
variable (r : Request) (post : Config → Packet → Posted) (s : State)

theorem runCommand_idle (h : s.state = 0) : runCommand r post s = .next (s.accept r) := by
  simp [runCommand, h, Phase.ofCode]

theorem runCommand_write (h : s.state = 1) : runCommand r post s = writeStep s := by
  simp [runCommand, h, Phase.ofCode]

theorem runCommand_read (h : s.state = 2) : runCommand r post s = readStep s := by
  simp [runCommand, h, Phase.ofCode]

theorem runCommand_check (h : s.state = 3) : runCommand r post s = .next (s.check post) := by
  simp [runCommand, h, Phase.ofCode]

theorem runCommand_fatal (h : s.state = 4) : runCommand r post s = .fault .fatalHold := by
  simp [runCommand, h, Phase.ofCode]

end

/-! ### Every meaning is one run of a command -/

/-- The plan of each instruction: the `Tx(opc, f1, f2, kind)` its meaning sends. -/
def requestOf (c : Config) : Instr → Request
  | .ping => ⟨.ping, .query, c.opcPing, 0, 0⟩
  | .temp => ⟨.temp, .query, c.opcTemp, 0, 0⟩
  | .status => ⟨.status, .query, lit.opcStatus, 0, 0⟩
  | .switches => ⟨.switches, .query, c.opcSwitches, 0, 0⟩
  | .version => ⟨.version, .query, c.opcVersion, 0, 0⟩
  | .armQ => ⟨.armTime, .query, lit.opcArmQ, 0, 0⟩
  | .armS t => ⟨.armTime, .set, lit.opcArmS, hi8 t, lo8 t⟩
  | .sarmQ => ⟨.storedArmTime, .query, c.opcSarmQ, 0, 0⟩
  | .sarmS t => ⟨.storedArmTime, .set, c.opcSarmS, hi8 t, lo8 t⟩
  | .alarmQ => ⟨.alarm, .query, c.opcAlarmQ, 0, 0⟩
  | .alarmS t => ⟨.alarm, .set, c.opcAlarmS, hi8 t, lo8 t⟩
  | .salarmQ => ⟨.storedAlarm, .query, c.opcSalarmQ, 0, 0⟩
  | .salarmS t => ⟨.storedAlarm, .set, c.opcSalarmS, hi8 t, lo8 t⟩
  | .trigQ => ⟨.trigger, .query, c.opcTrigQ, 0, 0⟩
  | .trigClr => ⟨.trigger, .set, c.opcTrigClr, 0, c.clearSentinel⟩
  | .enable => ⟨.enable, .query, lit.opcWdctl, hi8 lit.magicEnable, lo8 lit.magicEnable⟩
  | .disable => ⟨.disable, .query, lit.opcWdctl, hi8 lit.magicDisable, lo8 lit.magicDisable⟩
  | .relayQ => ⟨.relay, .query, c.opcRelayQ, 0, 0⟩
  | .relayS v => ⟨.relay, .set, c.opcRelayS, 0, v⟩
  | .buzzerQ => ⟨.buzzer, .query, c.opcBuzzerQ, 0, 0⟩
  | .buzzerS v => ⟨.buzzer, .set, c.opcBuzzerS, 0, v⟩
  | .countQ => ⟨.count, .query, c.opcCountQ, 0, 0⟩
  | .countClr => ⟨.count, .set, c.opcCountClr, 0, c.clearSentinel⟩
  | .pulseQ => ⟨.pulse, .query, c.opcPulseQ, 0, 0⟩
  | .pulseS v => ⟨.pulse, .set, c.opcPulseS, 0, v⟩
  | .reset => ⟨.reset, .query, c.opcReset, hi8 c.resetPayload, lo8 c.resetPayload⟩

/-- The reply decoder of each instruction. -/
def postOf : Instr → Config → Packet → Posted
  | .ping => postNothing
  | .temp => postTemp
  | .status => postStatus
  | .switches => postSwitches
  | .version => postVersion
  | .armQ => postTimer
  | .armS _ => postRaw
  | .sarmQ => postTimer
  | .sarmS _ => postRaw
  | .alarmQ => postTimer
  | .alarmS _ => postRaw
  | .salarmQ => postTimer
  | .salarmS _ => postRaw
  | .trigQ => postCounter
  | .trigClr => postPriorCount
  | .enable => postNothing
  | .disable => postNothing
  | .relayQ => postRelay
  | .relayS _ => postRaw
  | .buzzerQ => postBuzzer
  | .buzzerS _ => postRaw
  | .countQ => postCounter
  | .countClr => postPriorCount
  | .pulseQ => postPulse
  | .pulseS _ => postRaw
  | .reset => postNothing

theorem exec_eq_runCommand (i : Instr) (s : State) :
    exec i s = runCommand (requestOf s.config i) (postOf i) s := by
  cases i <;> rfl

/-! ### The channel steps -/

/-- A WRITE step that goes on has consumed one answer of the channel. -/
theorem writeStep_next {s t : State} (h : writeStep s = .next t) :
    ∃ a rest, s.chw = a :: rest ∧
      t = ({ s with chw := rest }.post
        (.chanWrite s.txbuf a.result (a.delivered s.txbuf))).afterWrite a.result := by
  unfold writeStep at h
  split at h
  · cases h
  · next a rest hc => cases h; exact ⟨a, rest, hc, rfl⟩

/-- What ChanWrite's answer leads to: READ, or one of the two fatal stops. -/
theorem State.afterWrite_cases (r : WriteResult) (s : State) :
    (r = .ok 6 ∧ s.afterWrite r = { s with state := Phase.read.code }) ∨
    (∃ c, r = .ok c ∧ c ≠ 6 ∧ s.afterWrite r = s.raise (.fatal .writeShort)) ∨
    (r = .err ∧ s.afterWrite r = s.raise (.fatal .writeErr)) := by
  cases r with
  | err => exact .inr (.inr ⟨rfl, rfl⟩)
  | ok c =>
    by_cases hc : c = 6
    · exact .inl ⟨by rw [hc], by simp [State.afterWrite, hc]⟩
    · exact .inr (.inl ⟨c, rfl, hc, by simp [State.afterWrite, hc]⟩)

/-- A READ step that goes on has consumed one answer of the channel. -/
theorem readStep_next {s t : State} (h : readStep s = .next t) :
    ∃ a rest, s.chr = a :: rest ∧
      t = ({ s with chr := rest }.post (.chanRead 6 a.atMostSix)).afterRead a.atMostSix := by
  unfold readStep at h
  split at h
  · cases h
  · next a rest hc => cases h; exact ⟨a, rest, hc, rfl⟩

/-- RXBUF and RXCNT after a reply of the bytes `b` (41_exchange.md R71). -/
def State.received (s : State) (b : List Byte) : State :=
  { s with rxbuf := s.rxbuf.overwrite b, rxcnt := BitVec.ofNat 3 b.length }

/-- What ChanRead's answer leads to: CHECK, or one of the two fatal stops. -/
theorem State.afterRead_cases (r : ReadAnswer) (s : State) :
    (r = .err ∧ s.afterRead r = s.raise (.fatal .readErr)) ∨
    (∃ b, r = .ok b ∧ b.length < 6 ∧ s.shortReadFatal = true ∧
      s.afterRead r = (s.received b).raise (.fatal .readShort)) ∨
    (∃ b, r = .ok b ∧ ¬ (b.length < 6 ∧ s.shortReadFatal = true) ∧
      s.afterRead r = { s.received b with state := Phase.check.code }) := by
  cases r with
  | err => exact .inl ⟨rfl, rfl⟩
  | ok b =>
    refine .inr ?_
    have hs : (s.received b).shortReadFatal = s.shortReadFatal := rfl
    by_cases hb : b.length < 6 ∧ s.shortReadFatal = true
    · refine .inl ⟨b, rfl, hb.1, hb.2, ?_⟩
      show (if b.length < 6 ∧ (s.received b).shortReadFatal = true then _ else _) = _
      rw [hs, if_pos hb]; rfl
    · refine .inr ⟨b, rfl, hb, ?_⟩
      show (if b.length < 6 ∧ (s.received b).shortReadFatal = true then _ else _) = _
      rw [hs, if_neg hb]; rfl

/-! ### The CHECK step -/

theorem State.check_valid (post : Config → Packet → Posted) (s : State) (h : s.replyValid = true) :
    s.check post =
      { s with
        result := ResultCode.valid.code
        state := Phase.idle.code
        ports := s.ports ++ [.res ⟨ResultCode.valid.code, s.act, s.kind, some s.rxbuf,
          (post s.config s.rxbuf).fields, (post s.config s.rxbuf).lines⟩] } := by
  simp only [State.check, h]; rfl

theorem State.check_invalid (post : Config → Packet → Posted) (s : State)
    (h : s.replyValid = false) :
    s.check post =
      { s with
        result := s.invalidCode.code
        state := Phase.idle.code
        ports := s.ports ++ [.res ⟨s.invalidCode.code, s.act, s.kind, none, none, []⟩] ++
          (if s.warnOnInvalid then [.diag (.warn s.act s.invalidCode.code)] else []) } := by
  simp only [State.check, h]
  by_cases hw : s.warnOnInvalid = true
  · simp [hw, State.post]
  · simp [hw, State.post]

/-! ### PLAN's common start -/

theorem planWith_none (q : Instr) (f : Option (Text → Planned)) : planWith q f none = .tx q := rfl

theorem planWith_help (q : Instr) (f : Option (Text → Planned)) :
    planWith q f (some helpArg) = .usage .help := by
  simp [planWith]

theorem planWith_noSet (q : Instr) (a : Text) (h : a ≠ helpArg) :
    planWith q none (some a) = .usage .noSet := by
  simp [planWith, h]

theorem planWith_set (q : Instr) (f : Text → Planned) (a : Text) (h : a ≠ helpArg) :
    planWith q (some f) (some a) = f a := by
  simp [planWith, h]

/-! ### A step -/

/-- Everything a step that goes on can be: a reset; waiting in IDLE; a usage error; the ACCEPT of an
offered command; or the next step of the command in flight. -/
theorem step_next {s t : State} (h : step s = .next t) :
    s.config.wellFormed = true ∧
    ((∃ r, s.resetAsserted = some r ∧ t = s.noReset.hostReset r) ∨
     (s.resetAsserted = none ∧ s.neverWritten = none ∧
      ((s.state = 0 ∧ s.cmd = [] ∧ t = s.noReset) ∨
       (∃ o rest u, s.state = 0 ∧ s.cmd = o :: rest ∧ plan s.config o.act o.arg = .usage u ∧
          t = (s.noReset.takeOffer o rest).raise (.usage o.act u)) ∨
       (∃ o rest i, s.state = 0 ∧ s.cmd = o :: rest ∧ plan s.config o.act o.arg = .tx i ∧
          t = (s.noReset.takeOffer o rest).accept (requestOf s.config i)) ∨
       (∃ i, s.state = 1 ∧ s.inFlight = some i ∧ writeStep s.noReset = .next t) ∨
       (∃ i, s.state = 2 ∧ s.inFlight = some i ∧ readStep s.noReset = .next t) ∨
       (∃ i, s.state = 3 ∧ s.inFlight = some i ∧ t = s.noReset.check (postOf i))))) := by
  unfold step nextStep at h
  by_cases hc : s.config.wellFormed = true
  case neg => simp [hc] at h
  refine ⟨hc, ?_⟩
  rw [if_pos hc] at h
  cases hr : s.resetAsserted with
  | some r => rw [hr] at h; cases h; exact .inl ⟨r, rfl, rfl⟩
  | none =>
    refine .inr ⟨rfl, ?_⟩
    rw [hr] at h
    cases hn : s.neverWritten with
    | some f => rw [hn] at h; cases h
    | none =>
      refine ⟨rfl, ?_⟩
      rw [hn] at h
      have hfl : s.noReset.inFlight = s.inFlight := rfl
      have hcase : s.state = 0 ∨ s.state = 1 ∨ s.state = 2 ∨ s.state = 3 ∨ s.state = 4 ∨
          Phase.ofCode s.state = none := by
        generalize s.state = x; revert x; decide
      rcases hcase with h0 | h1 | h2 | h3 | h4 | h5
      · simp only [proceed, State.noReset_state, State.noReset_cmd, State.noReset_config, h0,
          Phase.ofCode] at h
        cases hcmd : s.cmd with
        | nil => simp [hcmd] at h; exact .inl ⟨h0, rfl, h.symm⟩
        | cons o rest =>
          simp only [hcmd] at h
          cases hp : plan s.config o.act o.arg with
          | usage u =>
            simp only [BitVec.ofNat_eq_ofNat, BitVec.toNat_ofNat, Nat.zero_mod, hp] at h
            cases h
            exact .inr (.inl ⟨o, rest, u, h0, rfl, hp, rfl⟩)
          | tx i =>
            simp only [BitVec.ofNat_eq_ofNat, BitVec.toNat_ofNat, Nat.zero_mod, hp] at h
            rw [exec_eq_runCommand, runCommand_idle _ _ _ (by simpa using h0)] at h
            cases h
            exact .inr (.inr (.inl ⟨o, rest, i, h0, rfl, hp, rfl⟩))
      · cases hi : s.inFlight with
        | none => simp [proceed, h1, Phase.ofCode, hfl, hi] at h
        | some i =>
          simp only [proceed, State.noReset_state, h1, Phase.ofCode, hfl, hi] at h
          change exec i s.noReset = .next t at h
          rw [exec_eq_runCommand, runCommand_write _ _ _ (by simpa using h1)] at h
          exact .inr (.inr (.inr (.inl ⟨i, h1, rfl, h⟩)))
      · cases hi : s.inFlight with
        | none => simp [proceed, h2, Phase.ofCode, hfl, hi] at h
        | some i =>
          simp only [proceed, State.noReset_state, h2, Phase.ofCode, hfl, hi] at h
          change exec i s.noReset = .next t at h
          rw [exec_eq_runCommand, runCommand_read _ _ _ (by simpa using h2)] at h
          exact .inr (.inr (.inr (.inr (.inl ⟨i, h2, rfl, h⟩))))
      · cases hi : s.inFlight with
        | none => simp [proceed, h3, Phase.ofCode, hfl, hi] at h
        | some i =>
          simp only [proceed, State.noReset_state, h3, Phase.ofCode, hfl, hi] at h
          change exec i s.noReset = .next t at h
          rw [exec_eq_runCommand, runCommand_check _ _ _ (by simpa using h3)] at h
          cases h
          exact .inr (.inr (.inr (.inr (.inr ⟨i, h3, rfl, rfl⟩))))
      · simp [proceed, h4, Phase.ofCode] at h
      · simp [proceed, h5] at h

end Sys2Proof.Machine
end

