-- ==== Sys2Proof/Laws/PerInstr.lean ====
section
/-! SUPPORT. Statements made per instruction, one lemma per constructor of Instr. -/

namespace Sys2Proof.Laws.ReservedBytesZero

/-- Under every configuration the instruction's packet starts with the row's opcode and its bytes 3 to 5
are zero (30_encoding.md R46). -/
def Statement (i : Instr) : Prop :=
  ∀ c : Config, (encode c i).p0 = opcodeOf c i ∧ (encode c i).p3 = 0 ∧ (encode c i).p4 = 0 ∧
    (encode c i).p5 = 0

theorem ping : Statement .ping := fun _ => ⟨rfl, rfl, rfl, rfl⟩
theorem temp : Statement .temp := fun _ => ⟨rfl, rfl, rfl, rfl⟩
theorem status : Statement .status := fun _ => ⟨rfl, rfl, rfl, rfl⟩
theorem switches : Statement .switches := fun _ => ⟨rfl, rfl, rfl, rfl⟩
theorem version : Statement .version := fun _ => ⟨rfl, rfl, rfl, rfl⟩
theorem armQ : Statement .armQ := fun _ => ⟨rfl, rfl, rfl, rfl⟩
theorem armS (t : BitVec 16) : Statement (.armS t) := fun _ => ⟨rfl, rfl, rfl, rfl⟩
theorem sarmQ : Statement .sarmQ := fun _ => ⟨rfl, rfl, rfl, rfl⟩
theorem sarmS (t : BitVec 16) : Statement (.sarmS t) := fun _ => ⟨rfl, rfl, rfl, rfl⟩
theorem alarmQ : Statement .alarmQ := fun _ => ⟨rfl, rfl, rfl, rfl⟩
theorem alarmS (t : BitVec 16) : Statement (.alarmS t) := fun _ => ⟨rfl, rfl, rfl, rfl⟩
theorem salarmQ : Statement .salarmQ := fun _ => ⟨rfl, rfl, rfl, rfl⟩
theorem salarmS (t : BitVec 16) : Statement (.salarmS t) := fun _ => ⟨rfl, rfl, rfl, rfl⟩
theorem trigQ : Statement .trigQ := fun _ => ⟨rfl, rfl, rfl, rfl⟩
theorem trigClr : Statement .trigClr := fun _ => ⟨rfl, rfl, rfl, rfl⟩
theorem enable : Statement .enable := fun _ => ⟨rfl, rfl, rfl, rfl⟩
theorem disable : Statement .disable := fun _ => ⟨rfl, rfl, rfl, rfl⟩
theorem relayQ : Statement .relayQ := fun _ => ⟨rfl, rfl, rfl, rfl⟩
theorem relayS (v : Byte) : Statement (.relayS v) := fun _ => ⟨rfl, rfl, rfl, rfl⟩
theorem buzzerQ : Statement .buzzerQ := fun _ => ⟨rfl, rfl, rfl, rfl⟩
theorem buzzerS (v : Byte) : Statement (.buzzerS v) := fun _ => ⟨rfl, rfl, rfl, rfl⟩
theorem countQ : Statement .countQ := fun _ => ⟨rfl, rfl, rfl, rfl⟩
theorem countClr : Statement .countClr := fun _ => ⟨rfl, rfl, rfl, rfl⟩
theorem pulseQ : Statement .pulseQ := fun _ => ⟨rfl, rfl, rfl, rfl⟩
theorem pulseS (v : Byte) : Statement (.pulseS v) := fun _ => ⟨rfl, rfl, rfl, rfl⟩
theorem reset : Statement .reset := fun _ => ⟨rfl, rfl, rfl, rfl⟩

end Sys2Proof.Laws.ReservedBytesZero
end

