-- ==== Sys2Proof/Laws/Sequencing.lean ====
section
/-! SUPPORT. The register encodings, the request an offer plans, and how a step reaches the meaning of a
command. -/

namespace Sys2Proof.Machine

/-! ### Register encodings -/

theorem Action.ofCode_code (a : Action) : Action.ofCode a.code = some a := by cases a <;> rfl

theorem Kind.ofCode_code (k : Kind) : Kind.ofCode k.code = k := by cases k <;> rfl

theorem Action.code_lt (a : Action) : a.code.toNat < 17 := by cases a <;> decide

/-- A usage error's code is 4 to 9, so neither never-written nor fatal. -/
theorem Usage.code_range (u : Usage) : 4 ≤ u.code.toNat ∧ u.code.toNat ≤ 9 := by cases u <;> decide

theorem State.neverWritten_eq_none_iff (s : State) :
    s.neverWritten = none ↔
      s.state.toNat < 5 ∧ s.act.toNat < 17 ∧ s.result.toNat < 12 ∧ s.fcause.toNat < 5 := by
  unfold State.neverWritten
  repeat' split
  all_goals simp
  all_goals omega

/-! ### The request an offer plans -/

/-- The instruction PLAN gives names the offer's action, and is a query exactly when the offer has no
argument. -/
theorem plan_request {c : Config} {act : Action} {arg : Option Text} {i : Instr}
    (h : plan c act arg = .tx i) :
    (requestOf c i).act = act ∧ (requestOf c i).kind = if arg = none then .query else .set := by
  have start : ∀ q (f : Option (Text → Planned)) arg, planWith q f arg = .tx i →
      (arg = none ∧ i = q) ∨ (arg ≠ none ∧ ∃ g a, f = some g ∧ g a = .tx i) := by
    intro q f arg h
    unfold planWith at h
    split at h
    · cases h; exact .inl ⟨rfl, rfl⟩
    · split at h
      · cases h
      · split at h
        · cases h
        · exact .inr ⟨by simp, _, _, rfl, h⟩
  have parsed : ∀ {α} (p : Text → Parsed α) (f : α → Instr) a,
      planParsed p f a = .tx i → ∃ x, i = f x := by
    intro α p f a h
    unfold planParsed at h
    split at h
    · cases h
    · cases h; exact ⟨_, rfl⟩
  cases act <;>
    simp only [plan, planPing, planTemp, planStatus, planSwitches, planVersion, planArmTime,
      planStoredArmTime, planAlarm, planStoredAlarm, planTrigger, planEnable, planDisable, planRelay,
      planBuzzer, planCount, planPulse, planReset] at h <;>
    rcases start _ _ _ h with ⟨h1, rfl⟩ | ⟨h1, g, a, e, hg⟩
  all_goals first
    | (simp [requestOf, h1]; done)
    | (cases e; done)
    | (cases e; cases hg; simp [requestOf, h1]; done)
    | (cases e; obtain ⟨x, rfl⟩ := parsed _ _ _ hg; simp [requestOf, h1])

/-! ### Reaching the meaning -/

theorem nextStep_of_live {s : State} (h : s.Live) : nextStep s = proceed s.noReset := by
  simp [nextStep, h.config, h.noReset, h.encodings]

/-- A step with a command in flight is that command's meaning. -/
theorem nextStep_of_inFlight {s : State} {i : Instr} (h : s.Live)
    (hs : s.state = 1 ∨ s.state = 2 ∨ s.state = 3) (hi : s.inFlight = some i) :
    nextStep s = .run i s.noReset := by
  have hi' : s.noReset.inFlight = some i := hi
  rw [nextStep_of_live h]
  rcases hs with h1 | h1 | h1 <;> simp [proceed, h1, hi', Phase.ofCode]

/-- What every command's CHECK does with a valid reply. -/
theorem exec_of_validReply {s : State} (h : s.HasValidReply) (i : Instr) :
    exec i s = .next (s.answered (postOf i s.config s.rxbuf).fields
      (postOf i s.config s.rxbuf).lines) := by
  obtain ⟨h1, h2, h3⟩ := h
  rw [exec_eq_runCommand, runCommand_check _ _ _ h1,
    State.check_valid _ _ (by simp [State.replyValid, h2, h3])]
  rfl

/-- One step of a run. -/
theorem run_succ (k : Nat) {s t : State} (h : step s = .next t) :
    Host.Core.run Sys2Proof.core (k + 1) s = Host.Core.run Sys2Proof.core k t := by
  have h' : Sys2Proof.core.step s = .next t := h
  simp only [Host.Core.run, h']

end Sys2Proof.Machine
end

