-- ==== Sys2Proof/Laws/Text.lean ====
section
/-! SUPPORT. Decimal spelling and reading, and the digit strings of the grammars. -/

namespace Sys2Proof.Machine

theorem digitByte_toNat {d : Nat} (h : d < 10) : (digitByte d).toNat = 0x30 + d := by
  simp [digitByte]
  omega

theorem positionalValue_append (a b : Text) :
    positionalValue (a ++ b) = positionalValue a * 10 ^ b.length + positionalValue b := by
  simp [positionalValue, Nat.ofDigits_append]
  ring

theorem positionalValue_digit {d : Nat} (h : d < 10) : positionalValue [digitByte d] = d := by
  simp [positionalValue, digitByte_toNat h]

/-- The digits do not depend on the fuel, once there is enough of it. -/
theorem decimalDigits_fuel (n : Nat) : ∀ f g acc, n < f → n < g →
    decimalDigits f n acc = decimalDigits g n [] ++ acc := by
  induction n using Nat.strong_induction_on with
  | _ n ih =>
    intro f g acc hf hg
    obtain ⟨f, rfl⟩ : ∃ k, f = k + 1 := ⟨f - 1, by omega⟩
    obtain ⟨g, rfl⟩ : ∃ k, g = k + 1 := ⟨g - 1, by omega⟩
    unfold decimalDigits
    by_cases h0 : n / 10 = 0
    · simp [h0]
    · simp only [h0, if_false]
      have hlt : n / 10 < n := by omega
      rw [ih _ hlt f f _ (by omega) (by omega), ih _ hlt g f [digitByte (n % 10)] (by omega) (by omega)]
      simp

/-- `dec` one digit at a time. -/
theorem dec_step (n : Nat) :
    dec n = if n / 10 = 0 then [digitByte (n % 10)] else dec (n / 10) ++ [digitByte (n % 10)] := by
  rw [dec, decimalDigits]
  split
  · rfl
  · rw [decimalDigits_fuel (n / 10) n (n / 10 + 1) _ (by omega) (by omega)]
    rfl

theorem isDecimal_iff (a : Text) : isDecimal a = true ↔ DigitString a := by
  cases a <;> simp [isDecimal, DigitString, isDigit]

theorem decimalValue_eq (a : Text) : decimalValue a = positionalValue a := by
  have gen : ∀ (a : Text) n, a.foldl (fun n b => 10 * n + (b.toNat - 0x30)) n =
      n * 10 ^ a.length + positionalValue a := by
    intro a
    induction a with
    | nil => simp [positionalValue]
    | cons b a ih =>
      intro n
      rw [List.foldl_cons, ih]
      have := positionalValue_append [b] a
      simp only [List.singleton_append] at this
      rw [this]
      simp [positionalValue]
      ring
  unfold decimalValue
  rw [gen a 0]
  simp

end Sys2Proof.Machine
end

