-- ==== Sys2Proof/Tests/Slice0.lean ====
section
/-! SUPPORT. Tests, and a witness for the hypotheses of every statement. Expected values come from
spec/95_test_vectors.md, from the encodings of spec/30_encoding.md R51 and from the examples of the
family files. The opcode parameters of `Config.atReset` are 0x40 and up in R9's order (log 3), so 0x53 is
OPC_PULSE_S and so on. -/

namespace Sys2Proof.Tests

open Sys2Proof Sys2Proof.Machine

/-! ### Helpers -/

/-- The next state, if there is one. -/
def next? (o : Host.Outcome State Fault Refusal) : Option State :=
  match o with
  | .next t => some t
  | .fault _ => none
  | .refused _ => none

/-- The fault, if there is one. -/
def fault? (o : Host.Outcome State Fault Refusal) : Option Fault :=
  match o with
  | .next _ => none
  | .fault f => some f
  | .refused _ => none

/-- Whether a step is refused. -/
def refused? (o : Host.Outcome State Fault Refusal) : Option Refusal :=
  match o with
  | .next _ => none
  | .fault _ => none
  | .refused r => some r

/-- IDLE with one offer on CMD. -/
def offering (act : Action) (arg : Option Text) : State := { State.reset with cmd := [⟨act, arg⟩] }

/-- The request a step sends for an offer. -/
def request (act : Action) (arg : Option Text) : Option Packet :=
  match next? (step (offering act arg)) with
  | some t => if t.state = 1 then some t.txbuf else none
  | none => none

/-- The RESULT of an offer that is a usage error. -/
def usage (act : Action) (arg : Option Text) : Option (BitVec 4) :=
  match next? (step (offering act arg)) with
  | some t => if t.state = 0 then some t.result else none
  | none => none

/-- A command in exchange state `phase`, its request sent and six reply bytes in RXBUF. -/
def exchanging (phase : BitVec 3) (act : Action) (kind : BitVec 1) (tx rx : Packet) : State :=
  { State.reset with
    state := phase
    act := act.code
    kind := kind
    txbuf := tx
    sentOpc := tx.p0
    rxbuf := rx
    rxcnt := 6 }

/-- The fields and lines a CHECK step posts on RES for a reply. -/
def reply (act : Action) (kind : BitVec 1) (tx rx : Packet) : Option (Option Fields × List Text) :=
  match next? (step (exchanging 3 act kind tx rx)) with
  | some t =>
    match t.ports with
    | [.res r] => if t.result = 1 then some (r.fields, r.lines) else none
    | _ => none
  | none => none

/-- A STATUS command just before its ChanWrite. -/
def writing : State :=
  { State.reset with state := 1, act := 2, txbuf := ⟨0x04, 0, 0, 0, 0, 0⟩, sentOpc := 0x04 }

/-- A STATUS command just before its ChanRead. -/
def reading : State := { writing with state := 2 }

/-- A STATUS command just before its CHECK, with a valid reply. -/
def checking : State := { writing with state := 3, rxbuf := ⟨0x04, 0, 0x83, 0, 0, 0⟩, rxcnt := 6 }

/-- A stop after an incomplete ChanWrite. -/
def stoppedAtWrite : State := { writing with state := 4, result := 10, fcause := 2 }

/-! ### WellFormed -/

theorem test_atReset_wellFormed : Config.atReset.wellFormed = true := by decide

theorem test_duplicateOpcode_illFormed :
    ({ Config.atReset with opcTemp := 0x40 } : Config).wellFormed = false := by decide

theorem test_fixedOpcode_illFormed :
    ({ Config.atReset with opcPing := 0x04 } : Config).wellFormed = false ∧
    ({ Config.atReset with opcPing := 0x10 } : Config).wellFormed = false ∧
    ({ Config.atReset with opcPing := 0x11 } : Config).wellFormed = false ∧
    ({ Config.atReset with opcPing := 0x30 } : Config).wellFormed = false := by decide

theorem test_queryEqualsSet_illFormed :
    ({ Config.atReset with opcRelayS := 0x4E } : Config).wellFormed = false := by decide

theorem test_tempByte_illFormed :
    ({ Config.atReset with tempByte := 0 } : Config).wellFormed = false ∧
    ({ Config.atReset with tempByte := 3 } : Config).wellFormed = false ∧
    ({ Config.atReset with tempByte := 1 } : Config).wellFormed = true := by decide

theorem test_unusedBits_illFormed :
    (Instr.relayS 0x08).wf = false ∧ (Instr.relayS 0x40).wf = false ∧
    (Instr.relayS 0x87).wf = true ∧ (Instr.buzzerS 0x10).wf = false ∧
    (Instr.buzzerS 0x40).wf = false ∧ (Instr.buzzerS 0x8F).wf = true := by decide

theorem test_illFormedConfig_refused :
    refused? (step { State.reset with config := { Config.atReset with tempByte := 0 } }) =
      some .illFormedConfig := by decide

/-! ### Decoding: a word of each row, written out from 30_encoding.md R48 and R51 -/

theorem test_decode_query :
    decodeTableWord 48 0x400000000000 = some .ping ∧
    decodeTableWord 48 0x410000000000 = some .temp ∧
    decodeTableWord 48 0x040000000000 = some .status ∧
    decodeTableWord 48 0x420000000000 = some .switches ∧
    decodeTableWord 48 0x430000000000 = some .version := by decide

theorem test_decode_timers :
    decodeTableWord 48 0x100000000000 = some .armQ ∧
    decodeTableWord 48 0x11012C000000 = some (.armS 300) ∧
    decodeTableWord 48 0x440000000000 = some .sarmQ ∧
    decodeTableWord 48 0x45FFFF000000 = some (.sarmS 0xFFFF) ∧
    decodeTableWord 48 0x460000000000 = some .alarmQ ∧
    decodeTableWord 48 0x47003C000000 = some (.alarmS 60) ∧
    decodeTableWord 48 0x480000000000 = some .salarmQ ∧
    decodeTableWord 48 0x490100000000 = some (.salarmS 256) := by decide

theorem test_decode_counters :
    decodeTableWord 48 0x4A0000000000 = some .trigQ ∧
    decodeTableWord 48 0x4B0000000000 = some .trigClr ∧
    decodeTableWord 48 0x4C0000000000 = some .countQ ∧
    decodeTableWord 48 0x4D0000000000 = some .countClr := by decide

theorem test_decode_watchdog :
    decodeTableWord 48 0x305A3C000000 = some .enable ∧
    decodeTableWord 48 0x30A5C3000000 = some .disable ∧
    decodeTableWord 48 0x540000000000 = some .reset := by decide

theorem test_decode_relay_buzzer_pulse :
    decodeTableWord 48 0x4E0000000000 = some .relayQ ∧
    decodeTableWord 48 0x4F0081000000 = some (.relayS 0x81) ∧
    decodeTableWord 48 0x500000000000 = some .buzzerQ ∧
    decodeTableWord 48 0x510084000000 = some (.buzzerS 0x84) ∧
    decodeTableWord 48 0x520000000000 = some .pulseQ ∧
    decodeTableWord 48 0x530005000000 = some (.pulseS 5) := by decide

/-- 95_test_vectors.md 2.13. -/
theorem test_decode_noCommand :
    decodeTableWord 48 0x300000000000 = none ∧ decodeTableWord 48 0x040000000001 = none ∧
    decodeTableWord 48 0x000000000000 = none ∧ decodeTableWord 40 0x0400000000 = some .status ∧
    decodeTableWord 56 0x04 = none := by decide

/-- The very next step after `withFetchWord` is the ACCEPT of the row's instruction. -/
theorem test_withFetchWord_runs :
    (next? (step (State.reset.withFetchWord 48 0x11012C000000))).map (fun t => (t.state, t.txbuf)) =
      some (1, ⟨0x11, 0x01, 0x2C, 0, 0, 0⟩) ∧
    (next? (step (State.reset.withFetchWord 48 0x4F0081000000))).map (fun t => (t.state, t.txbuf)) =
      some (1, ⟨0x4F, 0x00, 0x81, 0, 0, 0⟩) := by decide

/-! ### ACCEPT: the request of each instruction -/

/-- R131. -/
theorem test_request_ping :
    request .ping none = some ⟨0x40, 0, 0, 0, 0, 0⟩ := by decide

/-- R132. -/
theorem test_request_temp :
    request .temp none = some ⟨0x41, 0, 0, 0, 0, 0⟩ := by decide

/-- W7. -/
theorem test_request_status :
    request .status none = some ⟨0x04, 0, 0, 0, 0, 0⟩ := by decide

/-- R84. -/
theorem test_request_switches :
    request .switches none = some ⟨0x42, 0, 0, 0, 0, 0⟩ := by decide

/-- R134. -/
theorem test_request_version :
    request .version none = some ⟨0x43, 0, 0, 0, 0, 0⟩ := by decide

/-- W10. -/
theorem test_request_armQ :
    request .armTime none = some ⟨0x10, 0, 0, 0, 0, 0⟩ := by decide

/-- 2.6. -/
theorem test_request_armS :
    request .armTime (some (ascii "000000000000065535")) = some ⟨0x11, 0xFF, 0xFF, 0, 0, 0⟩ := by decide

/-- R95. -/
theorem test_request_sarmQ :
    request .storedArmTime none = some ⟨0x44, 0, 0, 0, 0, 0⟩ := by decide

/-- R96. -/
theorem test_request_sarmS :
    request .storedArmTime (some (ascii "0")) = some ⟨0x45, 0, 0, 0, 0, 0⟩ := by decide

/-- R97. -/
theorem test_request_alarmQ :
    request .alarm none = some ⟨0x46, 0, 0, 0, 0, 0⟩ := by decide

/-- R98. -/
theorem test_request_alarmS :
    request .alarm (some (ascii "65535")) = some ⟨0x47, 0xFF, 0xFF, 0, 0, 0⟩ := by decide

/-- R99. -/
theorem test_request_salarmQ :
    request .storedAlarm none = some ⟨0x48, 0, 0, 0, 0, 0⟩ := by decide

/-- R100. -/
theorem test_request_salarmS :
    request .storedAlarm (some (ascii "00256")) = some ⟨0x49, 0x01, 0x00, 0, 0, 0⟩ := by decide

/-- 2.9. -/
theorem test_request_trigQ :
    request .trigger none = some ⟨0x4A, 0, 0, 0, 0, 0⟩ := by decide

/-- 2.9. -/
theorem test_request_trigClr :
    request .trigger (some (ascii "0")) = some ⟨0x4B, 0, 0, 0, 0, 0⟩ := by decide

/-- W11. -/
theorem test_request_enable :
    request .enable none = some ⟨0x30, 0x5A, 0x3C, 0, 0, 0⟩ := by decide

/-- W11. -/
theorem test_request_disable :
    request .disable none = some ⟨0x30, 0xA5, 0xC3, 0, 0, 0⟩ := by decide

/-- R106. -/
theorem test_request_relayQ :
    request .relay none = some ⟨0x4E, 0, 0, 0, 0, 0⟩ := by decide

/-- R107. -/
theorem test_request_relayS :
    request .relay (some (ascii "off,on,inversion")) = some ⟨0x4F, 0x00, 0x81, 0, 0, 0⟩ := by decide

/-- R112. -/
theorem test_request_buzzerQ :
    request .buzzer none = some ⟨0x50, 0, 0, 0, 0, 0⟩ := by decide

/-- W9. -/
theorem test_request_buzzerS :
    request .buzzer (some (ascii "on,store")) = some ⟨0x51, 0x00, 0x84, 0, 0, 0⟩ := by decide

/-- 2.9. -/
theorem test_request_countQ :
    request .count none = some ⟨0x4C, 0, 0, 0, 0, 0⟩ := by decide

/-- 2.9. -/
theorem test_request_countClr :
    request .count (some (ascii "0")) = some ⟨0x4D, 0, 0, 0, 0, 0⟩ := by decide

/-- R129. -/
theorem test_request_pulseQ :
    request .pulse none = some ⟨0x52, 0, 0, 0, 0, 0⟩ := by decide

/-- R130. -/
theorem test_request_pulseS :
    request .pulse (some (ascii "250ms")) = some ⟨0x53, 0x00, 0x05, 0, 0, 0⟩ := by decide

/-- R138. -/
theorem test_request_reset :
    request .reset none = some ⟨0x54, 0, 0, 0, 0, 0⟩ := by decide

/-! ### CHECK: the reply of each instruction -/

/-- 2.11. -/
theorem test_reply_ping :
    reply .ping 0 ⟨0x40, 0, 0, 0, 0, 0⟩ ⟨0x40, 0x12, 0x34, 0, 0, 0⟩ =
      some (none,
        []) := by decide

/-- 2.11. -/
theorem test_reply_temp :
    reply .temp 0 ⟨0x41, 0, 0, 0, 0, 0⟩ ⟨0x41, 0x00, 0x80, 0, 0, 0⟩ =
      some (some (.temperature (-128)),
        [ascii "-128"]) := by decide

/-- W7. -/
theorem test_reply_status :
    reply .status 0 ⟨0x04, 0, 0, 0, 0, 0⟩ ⟨0x04, 0x00, 0x83, 0, 0, 0⟩ =
      some (some (.status ⟨true, true, true⟩),
        [ascii "Armed", ascii "CMOS is good", ascii "temp sensor is good"]) := by decide

/-- 2.5. -/
theorem test_reply_switches :
    reply .switches 0 ⟨0x42, 0, 0, 0, 0, 0⟩ ⟨0x42, 0x00, 0xAB, 0, 0, 0⟩ =
      some (some (.switches ⟨true, false, true, false, true, 3, 60⟩),
        [ascii "switch 1: ON", ascii "switch 2: OFF", ascii "switch 3: ON", ascii "switch 4: OFF", ascii "switch 5: ON", ascii "delay time: 1 minute"]) := by decide

/-- R93. -/
theorem test_reply_armQ :
    reply .armTime 0 ⟨0x10, 0, 0, 0, 0, 0⟩ ⟨0x10, 0x01, 0x2C, 0, 0, 0⟩ =
      some (some (.timer 300),
        [ascii "300"]) := by decide

/-- P2. -/
theorem test_reply_armS :
    reply .armTime 1 ⟨0x11, 0x01, 0x2C, 0, 0, 0⟩ ⟨0x11, 0x01, 0x2C, 0, 0, 0⟩ =
      some (some (.raw 0x01 0x2C),
        []) := by decide

/-- R95. -/
theorem test_reply_sarmQ :
    reply .storedArmTime 0 ⟨0x44, 0, 0, 0, 0, 0⟩ ⟨0x44, 0xFF, 0xFF, 0, 0, 0⟩ =
      some (some (.timer 65535),
        [ascii "65535"]) := by decide

/-- R66. -/
theorem test_reply_sarmS :
    reply .storedArmTime 1 ⟨0x45, 0, 0, 0, 0, 0⟩ ⟨0x45, 0x12, 0x34, 0, 0, 0⟩ =
      some (some (.raw 0x12 0x34),
        []) := by decide

/-- R97. -/
theorem test_reply_alarmQ :
    reply .alarm 0 ⟨0x46, 0, 0, 0, 0, 0⟩ ⟨0x46, 0x00, 0x3C, 0, 0, 0⟩ =
      some (some (.timer 60),
        [ascii "60"]) := by decide

/-- P6. -/
theorem test_reply_alarmS :
    reply .alarm 1 ⟨0x47, 0, 0x78, 0, 0, 0⟩ ⟨0x47, 0x00, 0x3C, 0, 0, 0⟩ =
      some (some (.raw 0x00 0x3C),
        []) := by decide

/-- R99. -/
theorem test_reply_salarmQ :
    reply .storedAlarm 0 ⟨0x48, 0, 0, 0, 0, 0⟩ ⟨0x48, 0x00, 0x00, 0, 0, 0⟩ =
      some (some (.timer 0),
        [ascii "0"]) := by decide

/-- R66. -/
theorem test_reply_salarmS :
    reply .storedAlarm 1 ⟨0x49, 0x01, 0, 0, 0, 0⟩ ⟨0x49, 0xFF, 0x01, 0, 0, 0⟩ =
      some (some (.raw 0xFF 0x01),
        []) := by decide

/-- 2.9. -/
theorem test_reply_trigQ :
    reply .trigger 0 ⟨0x4A, 0, 0, 0, 0, 0⟩ ⟨0x4A, 0x00, 0xFF, 0, 0, 0⟩ =
      some (some (.counter 255),
        [ascii "255"]) := by decide

/-- 2.9. -/
theorem test_reply_trigClr :
    reply .trigger 1 ⟨0x4B, 0, 0, 0, 0, 0⟩ ⟨0x4B, 0x00, 0x0C, 0, 0, 0⟩ =
      some (some (.priorCount 12),
        [ascii "12"]) := by decide

/-- 2.12. -/
theorem test_reply_enable :
    reply .enable 0 ⟨0x30, 0x5A, 0x3C, 0, 0, 0⟩ ⟨0x30, 0xA5, 0xC3, 0, 0, 0⟩ =
      some (none,
        []) := by decide

/-- 2.12. -/
theorem test_reply_disable :
    reply .disable 0 ⟨0x30, 0xA5, 0xC3, 0, 0, 0⟩ ⟨0x30, 0x00, 0x00, 0, 0, 0⟩ =
      some (none,
        []) := by decide

/-- 2.7. -/
theorem test_reply_relayQ :
    reply .relay 0 ⟨0x4E, 0, 0, 0, 0, 0⟩ ⟨0x4E, 0x00, 0x87, 0, 0, 0⟩ =
      some (some (.relay ⟨true, .latch, true⟩),
        [ascii "relay is on", ascii "relay latches on reset", ascii "relay inversion is active"]) := by decide

/-- R66. -/
theorem test_reply_relayS :
    reply .relay 1 ⟨0x4F, 0, 0x81, 0, 0, 0⟩ ⟨0x4F, 0x00, 0x81, 0, 0, 0⟩ =
      some (some (.raw 0x00 0x81),
        []) := by decide

/-- 2.8. -/
theorem test_reply_buzzerQ :
    reply .buzzer 0 ⟨0x50, 0, 0, 0, 0, 0⟩ ⟨0x50, 0x00, 0x8F, 0, 0, 0⟩ =
      some (some (.buzzer ⟨true, true, true, true, true⟩),
        [ascii "short beep (stored)", ascii "continual beep (stored)", ascii "buzzer is on", ascii "buzzer is off"]) := by decide

/-- R66. -/
theorem test_reply_buzzerS :
    reply .buzzer 1 ⟨0x51, 0, 0x84, 0, 0, 0⟩ ⟨0x51, 0x00, 0x84, 0, 0, 0⟩ =
      some (some (.raw 0x00 0x84),
        []) := by decide

/-- 2.9. -/
theorem test_reply_countQ :
    reply .count 0 ⟨0x4C, 0, 0, 0, 0, 0⟩ ⟨0x4C, 0xFF, 0x00, 0, 0, 0⟩ =
      some (some (.counter 0),
        [ascii "0"]) := by decide

/-- 2.9. -/
theorem test_reply_countClr :
    reply .count 1 ⟨0x4D, 0, 0, 0, 0, 0⟩ ⟨0x4D, 0x00, 0x00, 0, 0, 0⟩ =
      some (some (.priorCount 0),
        [ascii "0"]) := by decide

/-- W3. -/
theorem test_reply_pulseQ :
    reply .pulse 0 ⟨0x52, 0, 0, 0, 0, 0⟩ ⟨0x52, 0x00, 0x15, 0, 0, 0⟩ =
      some (some (.pulse 21),
        [ascii "21 (1.05 seconds)"]) := by decide

/-- P5. -/
theorem test_reply_pulseS :
    reply .pulse 1 ⟨0x53, 0, 0x05, 0, 0, 0⟩ ⟨0x53, 0x00, 0x05, 0, 0, 0⟩ =
      some (some (.raw 0x00 0x05),
        []) := by decide

/-- R138. -/
theorem test_reply_reset :
    reply .reset 0 ⟨0x54, 0, 0, 0, 0, 0⟩ ⟨0x54, 0x77, 0x88, 0, 0, 0⟩ =
      some (none,
        []) := by decide

/-- R134: the raw bytes; the lines are open. -/
theorem test_reply_version :
    (reply .version 0 ⟨0x43, 0, 0, 0, 0, 0⟩ ⟨0x43, 0x01, 0x02, 0, 0, 0⟩).map (·.1) =
      some (some (.version 1 2)) := by decide

/-! ### Arguments (95_test_vectors.md 2.3, 2.6 to 2.10) -/

theorem test_usage_codes :
    usage .status (some (ascii "?")) = some 4 ∧ usage .status (some (ascii "1")) = some 9 ∧
    usage .ping (some []) = some 9 ∧ usage .armTime (some (ascii "65536")) = some 5 ∧
    usage .armTime (some (ascii "-1")) = some 6 ∧ usage .armTime (some []) = some 6 ∧
    usage .pulse (some (ascii "-0")) = some 7 ∧ usage .trigger (some (ascii "00")) = some 8 := by
  decide

theorem test_pulse_arguments :
    usage .pulse (some (ascii "12800ms")) = some 5 ∧
    usage .pulse (some (ascii "13seconds")) = some 5 ∧
    usage .pulse (some (ascii "5MS")) = some 6 ∧ usage .pulse (some (ascii "5 ms")) = some 6 ∧
    usage .pulse (some (ascii "-x")) = some 6 ∧ usage .pulse (some (ascii "ms")) = some 6 ∧
    request .pulse (some (ascii "12799ms")) = some ⟨0x53, 0, 0xFF, 0, 0, 0⟩ ∧
    request .pulse (some (ascii "1second")) = some ⟨0x53, 0, 20, 0, 0, 0⟩ := by decide

theorem test_relay_tokens :
    relayEncode (ascii "OFF,ON") = 0x01 ∧ relayEncode (ascii "ON,OFF") = 0x00 ∧
    relayEncode (ascii "on,,bogus") = 0x01 ∧ relayEncode (ascii "on ") = 0x00 ∧
    relayEncode (ascii "Latch,PULSE,latch") = 0x06 ∧ relayEncode (ascii "??") = 0x00 := by decide

theorem test_buzzer_tokens :
    buzzerEncode (ascii "ON,OFF") = 0x0C ∧
    buzzerEncode (ascii "short,annoying,on,off,store") = 0x8F ∧
    buzzerEncode (ascii "bogus") = 0x00 := by decide

theorem test_spelling_inverse :
    relayEncode (spellRelay 0x87) = 0x87 ∧ buzzerEncode (spellBuzzer 0x8F) = 0x8F := by decide

/-! ### The exchange (95_test_vectors.md 2.2) -/

theorem test_incompleteWrite_is_fatal :
    (next? (step { writing with chw := [⟨.ok 5, 3⟩] })).map
      (fun t => (t.state, t.result, t.fcause, t.ports)) =
      some (4, 10, 2, [.chanWrite ⟨0x04, 0, 0, 0, 0, 0⟩ (.ok 5) [0x04, 0, 0]]) := by decide

theorem test_writeError_is_fatal :
    (next? (step { writing with chw := [⟨.err, 0⟩] })).map (fun t => (t.state, t.result, t.fcause)) =
      some (4, 10, 1) := by decide

theorem test_shortRead_by_cfg :
    (next? (step { reading with chr := [.ok [0x04, 0x00]] })).map
      (fun t => (t.state, t.rxcnt, t.rxbuf)) = some (3, 2, ⟨0x04, 0, 0, 0, 0, 0⟩) ∧
    (next? (step { reading with chr := [.ok [0x04, 0x00]], cfg := 2 })).map
      (fun t => (t.state, t.result, t.fcause)) = some (4, 11, 4) := by decide

theorem test_noAnswer_is_stuck :
    fault? (step writing) = some .writeNeverAnswered ∧
    fault? (step reading) = some .readNeverAnswered ∧
    fault? (step stoppedAtWrite) = some .fatalHold := by decide

theorem test_mismatch_warns :
    (next? (step { checking with rxbuf := ⟨0x05, 0, 0x83, 0, 0, 0⟩, cfg := 1 })).map
      (fun t => (t.state, t.result, t.ports)) =
      some (0, 3, [.res ⟨3, 2, 0, none, none, []⟩, .diag (.warn 2 3)]) := by decide

theorem test_reset_leaves_fatal :
    (next? (step { stoppedAtWrite with rst := [some ⟨some 3, 0⟩] })).map
      (fun t => (t.state, t.act, t.result, t.fcause, t.cfg)) = some (0, 0, 0, 0, 3) := by decide

/-- P1's end STAT. -/
theorem test_stat_layout :
    ({ State.reset with result := 1, rxcnt := 6 } : State).stat = 0x1808 ∧
    ({ State.reset with state := 4, result := 11, fcause := 4, rxcnt := 2 } : State).stat = 0x0A5C := by
  decide

/-! ### Witnesses: a state and operands that meet the hypotheses of each statement, clause by clause -/

theorem live_reset : State.reset.Live := ⟨by decide, by decide, by decide⟩

theorem witness_ResetAssertedReinitialises :
    ({ writing with rst := [some ⟨some 3, 2⟩] } : State).config.wellFormed = true ∧
    ({ writing with rst := [some ⟨some 3, 2⟩] } : State).rst = some ⟨some 3, 2⟩ :: [] ∧
    ({ stoppedAtWrite with rst := [some ⟨none, 0⟩, none] } : State).rst =
      some ⟨none, 0⟩ :: [none] := by decide

/-- The invariant holds in the middle of an exchange, and the step from there goes on. -/
theorem witness_StepKeepsInvariant :
    ({ writing with chw := [⟨.ok 6, 0⟩] } : State).Inv ∧
    ∃ t, step { writing with chw := [⟨.ok 6, 0⟩] } = .next t := by
  refine ⟨⟨by decide, by decide, by decide, by decide, by decide, by decide, by decide, by decide, ?_,
    by decide, ?_, by decide⟩, _, rfl⟩
  · intro _
    exact ⟨.status, by decide, by decide, by decide⟩
  · intro k _
    rcases k with _ | _ | _ | _ | _ | _ | k <;> rfl

/-- The invariant holds in CHECK with a six-byte reply and SHORT_READ_FATAL = 1. -/
theorem witness_StepKeepsInvariant_check :
    ({ checking with cfg := 2 } : State).Inv ∧ ∃ t, step { checking with cfg := 2 } = .next t := by
  refine ⟨⟨by decide, by decide, by decide, by decide, by decide, by decide, by decide, by decide, ?_,
    by decide, ?_, by decide⟩, _, rfl⟩
  · intro _
    exact ⟨.status, by decide, by decide, by decide⟩
  · intro k hk
    have h6 : 6 ≤ k := hk
    rcases k with _ | _ | _ | _ | _ | _ | k <;> first | omega | rfl

/-- The invariant holds in FATAL, which a reset leaves. -/
theorem witness_StepKeepsInvariant_fatal :
    ({ stoppedAtWrite with rst := [some ⟨none, 0⟩] } : State).Inv ∧
    ∃ t, step { stoppedAtWrite with rst := [some ⟨none, 0⟩] } = .next t := by
  refine ⟨⟨by decide, by decide, by decide, by decide, by decide, by decide, by decide, by decide, ?_,
    by decide, ?_, by decide⟩, _, rfl⟩
  · intro _
    exact ⟨.status, by decide, by decide, by decide⟩
  · intro k _
    rcases k with _ | _ | _ | _ | _ | _ | k <;> rfl

theorem witness_OnlyResetWritesCfg :
    (∃ t, step { checking with cfg := 3 } = .next t) ∧
    ({ checking with cfg := 3 } : State).resetAsserted = none := ⟨⟨_, rfl⟩, by decide⟩

/-- Each of the three conditions alone, TEMP_BYTE at both ends. -/
theorem witness_IllFormedConfigIsRefused :
    ¬ ({ Config.atReset with opcReset := 0x40 } : Config).opcodes.Nodup ∧
    (∃ o ∈ ({ Config.atReset with opcPing := 0x04 } : Config).opcodes, o ∈ [0x04, 0x10, 0x11, 0x30]) ∧
    (∃ o ∈ ({ Config.atReset with opcReset := 0x30 } : Config).opcodes,
      o ∈ [0x04, 0x10, 0x11, 0x30]) ∧
    (({ Config.atReset with tempByte := 0 } : Config).tempByte ≠ 1 ∧
      ({ Config.atReset with tempByte := 0 } : Config).tempByte ≠ 2) ∧
    (({ Config.atReset with tempByte := 3 } : Config).tempByte ≠ 1 ∧
      ({ Config.atReset with tempByte := 3 } : Config).tempByte ≠ 2) := by decide

/-- The lowest never-written code of each register, with the other hypotheses. -/
theorem witness_NeverWrittenEncodingFaults :
    State.reset.config.wellFormed = true ∧ State.reset.resetAsserted = none ∧
    5 ≤ ({ State.reset with state := 5 } : State).state.toNat ∧
    17 ≤ ({ State.reset with act := 17 } : State).act.toNat ∧
    12 ≤ ({ State.reset with result := 12 } : State).result.toNat ∧
    5 ≤ ({ State.reset with fcause := 5 } : State).fcause.toNat ∧
    fault? (step { State.reset with state := 7 }) = some .badState ∧
    fault? (step { State.reset with act := 17 }) = some .badAct ∧
    fault? (step { State.reset with result := 15 }) = some .badResult ∧
    fault? (step { State.reset with fcause := 5 }) = some .badFcause := by decide

theorem witness_DecodeOfEncodeIsIdentity :
    Config.atReset.wellFormed = true ∧ (Instr.relayS 0x87).wf = true ∧
    (Instr.armS 0xFFFF).wf = true := by decide

theorem witness_DecodedCommandHasItsOpcode :
    decode Config.atReset [0x30, 0x5A, 0x3C, 0, 0, 0] = .instr .enable ∧
    decode Config.atReset [0x30, 0xA5, 0xC3, 0, 0, 0] = .instr .disable ∧
    decode Config.atReset [0x11, 0xFF, 0xFF, 0, 0, 0] = .instr (.armS 0xFFFF) ∧
    decode Config.atReset [0x53, 0x00, 0xFF, 0, 0, 0] = .instr (.pulseS 0xFF) := by decide

/-- Each of the four clauses, the first at both neighbours of six bytes and the second at both ends. -/
theorem witness_PacketsThatSpellNoCommand :
    ([0x04, 0, 0, 0, 0] : List Byte).length ≠ 6 ∧ ([0x04, 0, 0, 0, 0, 0, 0] : List Byte).length ≠ 6 ∧
    ([0x04, 0, 0, 1, 0, 0] : List Byte).getD 3 0 ≠ 0 ∧
    ([0x04, 0, 0, 0, 0, 1] : List Byte).getD 5 0 ≠ 0 ∧
    (([0x30, 0x5A, 0x3D, 0, 0, 0] : List Byte).head? = some 0x30 ∧
      ([0x30, 0x5A, 0x3D, 0, 0, 0] : List Byte).getD 1 0 ++
        ([0x30, 0x5A, 0x3D, 0, 0, 0] : List Byte).getD 2 0 ≠ (0x5A3C : BitVec 16) ∧
      ([0x30, 0x5A, 0x3D, 0, 0, 0] : List Byte).getD 1 0 ++
        ([0x30, 0x5A, 0x3D, 0, 0, 0] : List Byte).getD 2 0 ≠ (0xA5C3 : BitVec 16)) ∧
    (∀ i, ([0x00, 0, 0, 0, 0, 0] : List Byte).head? ≠ some (opcodeOf Config.atReset i)) := by
  refine ⟨by decide, by decide, by decide, by decide, by decide, ?_⟩
  intro i
  cases i <;> simp [opcodeOf, lit, Config.atReset]

theorem witness_StepRunsOfferedCommand :
    (offering .armTime (some (ascii "300"))).Live ∧
    (offering .armTime (some (ascii "300"))).state = 0 ∧
    (offering .armTime (some (ascii "300"))).cmd = ⟨.armTime, some (ascii "300")⟩ :: [] ∧
    plan (offering .armTime (some (ascii "300"))).config .armTime (some (ascii "300")) =
      .tx (.armS 300) := ⟨⟨by decide, by decide, by decide⟩, by decide, by decide, by decide⟩

theorem witness_StepRunsCommandInFlight :
    writing.Live ∧ writing.state = 1 ∧ writing.inFlight = some .status ∧
    reading.Live ∧ reading.state = 2 ∧ reading.inFlight = some .status ∧
    checking.Live ∧ checking.state = 3 ∧ checking.inFlight = some .status :=
  ⟨⟨by decide, by decide, by decide⟩, by decide, by decide, ⟨by decide, by decide, by decide⟩,
    by decide, by decide, ⟨by decide, by decide, by decide⟩, by decide, by decide⟩

theorem witness_StepRunsDecodedWord :
    stoppedAtWrite.config.wellFormed = true ∧
    ({ stoppedAtWrite with state := 0 } : State).neverWritten = none ∧
    decode stoppedAtWrite.config (packetOfWord 0x11012C000000).bytes = .instr (.armS 300) ∧
    (Instr.armS 300).wf = true := by decide

/-- The IDLE hypothesis of the ACCEPT statements, and both sides of the well-formedness one. -/
theorem witness_AcceptSendsTheEncodedPacket :
    State.reset.state = 0 ∧ (Instr.relayS 0x87).wf = true ∧ (Instr.relayS 0x08).wf = false := by decide

/-- Both plans, and an offer that is not taken. -/
theorem witness_AcceptStep :
    (offering .trigger (some (ascii "5"))).Live ∧
    (offering .trigger (some (ascii "5"))).state = 0 ∧
    plan (offering .trigger (some (ascii "5"))).config .trigger (some (ascii "5")) =
      .usage .counterArg ∧
    (offering .trigger (some (ascii "0"))).Live ∧
    plan (offering .trigger (some (ascii "0"))).config .trigger (some (ascii "0")) = .tx .trigClr ∧
    (({ checking with cmd := [⟨.ping, none⟩] } : State).state ≠ 0 ∧
      ∃ t, step { checking with cmd := [⟨.ping, none⟩] } = .next t) :=
  ⟨⟨by decide, by decide, by decide⟩, by decide, by decide, ⟨by decide, by decide, by decide⟩,
    by decide, by decide, _, rfl⟩

theorem witness_QueriesSendFormatQ : State.reset.state = 0 := by decide

theorem witness_TimerSetsSendFormatT16 : (offering .alarm (some (ascii "0"))).state = 0 := by decide

theorem witness_ByteSetsSendFormatB8 : (offering .count (some (ascii "0"))).state = 0 := by decide

theorem witness_ControlCommandsSendMagic :
    State.reset.state = 0 ∧
    ({ State.reset with config := { Config.atReset with resetPayload := 0x1234 } } :
      State).config.resetPayload = (0x12 : Byte) ++ (0x34 : Byte) := by decide

/-- Every answer of the channel, incomplete counts at both ends. -/
theorem witness_WriteStepOfEveryCommand :
    writing.state = 1 ∧ writing.chw = [] ∧
    ({ writing with chw := [⟨.ok 6, 6⟩] } : State).chw = ⟨.ok 6, 6⟩ :: [] ∧
    (({ writing with chw := [⟨.ok 0, 0⟩] } : State).chw = ⟨.ok 0, 0⟩ :: [] ∧ (0 : Fin 7) ≠ 6) ∧
    (({ writing with chw := [⟨.ok 5, 3⟩] } : State).chw = ⟨.ok 5, 3⟩ :: [] ∧ (5 : Fin 7) ≠ 6) ∧
    ({ writing with chw := [⟨.err, 1⟩] } : State).chw = ⟨.err, 1⟩ :: [] := by decide

/-- Replies of 0, 5 and 6 bytes under both settings of SHORT_READ_FATAL, err, and no answer. -/
theorem witness_ReadStepOfEveryCommand :
    reading.state = 2 ∧ reading.chr = [] ∧
    ({ reading with chr := [.err] } : State).chr = .err :: [] ∧
    ({ reading with chr := [.ok [1, 2, 3, 4, 5, 6]], cfg := 2 } : State).chr =
      .ok [1, 2, 3, 4, 5, 6] :: [] ∧
    ([1, 2, 3, 4, 5, 6] : List Byte).length = 6 ∧
    (({ reading with chr := [.ok []] } : State).chr = .ok [] :: [] ∧
      ({ reading with chr := [.ok []] } : State).cfg.getLsbD 1 = false) ∧
    (({ reading with chr := [.ok [1, 2, 3, 4, 5]], cfg := 2 } : State).chr =
        .ok [1, 2, 3, 4, 5] :: [] ∧
      ([1, 2, 3, 4, 5] : List Byte).length < 6 ∧
      ({ reading with chr := [.ok [1, 2, 3, 4, 5]], cfg := 2 } : State).cfg.getLsbD 1 = true) := by
  decide

/-- Short replies of 0 and 5 bytes, and a mismatch. -/
theorem witness_InvalidReplyIsSkipped :
    (({ checking with rxcnt := 0 } : State).state = 3 ∧
      ({ checking with rxcnt := 0 } : State).rxcnt.toNat ≤ 6 ∧
      ({ checking with rxcnt := 0 } : State).rxcnt ≠ 6) ∧
    (({ checking with rxcnt := 5 } : State).rxcnt.toNat ≤ 6 ∧
      ({ checking with rxcnt := 5 } : State).rxcnt ≠ 6) ∧
    (({ checking with rxbuf := ⟨0x84, 0, 0x83, 0, 0, 0⟩ } : State).rxcnt = 6 ∧
      ({ checking with rxbuf := ⟨0x84, 0, 0x83, 0, 0, 0⟩ } : State).rxbuf.p0 ≠
        ({ checking with rxbuf := ⟨0x84, 0, 0x83, 0, 0, 0⟩ } : State).sentOpc) := by decide

theorem witness_StatusReplyIsDecoded : checking.HasValidReply := ⟨by decide, by decide, by decide⟩

theorem witness_BuzzerReplyIsDecoded : ({ checking with rxbuf := ⟨0x04, 0, 0x8F, 0, 0, 0⟩ } : State).HasValidReply := ⟨by decide, by decide, by decide⟩

theorem witness_CounterRepliesAreDecoded : ({ checking with rxbuf := ⟨0x04, 0, 0xFF, 0, 0, 0⟩ } : State).HasValidReply := ⟨by decide, by decide, by decide⟩

theorem witness_VersionReplyIsRaw : ({ checking with rxbuf := ⟨0x04, 1, 2, 0, 0, 0⟩ } : State).HasValidReply := ⟨by decide, by decide, by decide⟩

/-- The rows the switches statement ranges over. -/
def delayRows : List (Nat × Nat × Text) :=
  [(0, 5, ascii "5 seconds"), (1, 10, ascii "10 seconds"), (2, 30, ascii "30 seconds"),
   (3, 60, ascii "1 minute"), (4, 300, ascii "5 minutes"), (5, 600, ascii "10 minutes"),
   (6, 1800, ascii "30 minutes"), (7, 3600, ascii "1 hour")]

/-- Delay index 0 and delay index 7, under both polarities. -/
theorem witness_SwitchesReplyIsDecoded :
    ({ checking with rxbuf := ⟨0x04, 0, 0xF8, 0, 0, 0⟩ } : State).HasValidReply ∧
    ((0xF8 : Byte).toNat % 8, 5, ascii "5 seconds") ∈ delayRows ∧
    ({ checking with rxbuf := ⟨0x04, 0, 0x07, 0, 0, 0⟩, config := { Config.atReset with switchOnWhenSet := false } } : State).HasValidReply ∧
    ((0x07 : Byte).toNat % 8, 3600, ascii "1 hour") ∈ delayRows :=
  ⟨⟨by decide, by decide, by decide⟩, by decide, ⟨by decide, by decide, by decide⟩, by decide⟩

theorem witness_TimerRepliesAreDecoded :
    ({ checking with rxbuf := ⟨0x04, 0xFF, 0xFF, 0, 0, 0⟩ } : State).HasValidReply ∧ 65535 = (0xFF : Byte).toNat * 256 + (0xFF : Byte).toNat :=
  ⟨⟨by decide, by decide, by decide⟩, by decide⟩

/-- Each mode: LATCH with PULSE set too, PULSE alone, neither. -/
theorem witness_RelayReplyIsDecoded :
    ({ checking with rxbuf := ⟨0x04, 0, 0x06, 0, 0, 0⟩ } : State).HasValidReply ∧ (0x06 : Byte).getLsbD 2 = true ∧
    ({ checking with rxbuf := ⟨0x04, 0, 0x83, 0, 0, 0⟩ } : State).HasValidReply ∧ (0x83 : Byte).getLsbD 2 = false ∧ (0x83 : Byte).getLsbD 1 = true ∧
    ({ checking with rxbuf := ⟨0x04, 0, 0x78, 0, 0, 0⟩ } : State).HasValidReply ∧ (0x78 : Byte).getLsbD 2 = false ∧
    (0x78 : Byte).getLsbD 1 = false :=
  ⟨⟨by decide, by decide, by decide⟩, by decide, ⟨by decide, by decide, by decide⟩, by decide, by decide, ⟨by decide, by decide, by decide⟩,
    by decide, by decide⟩

/-- Both ends of each of the four bands. -/
theorem witness_PulseReplyIsDecoded :
    ({ checking with rxbuf := ⟨0x04, 0, 0, 0, 0, 0⟩ } : State).HasValidReply ∧ 0 = (0 : Byte).toNat ∧ 1 = (1 : Byte).toNat ∧
    19 = (19 : Byte).toNat ∧ 20 = (20 : Byte).toNat ∧ 21 = (21 : Byte).toNat ∧
    255 = (255 : Byte).toNat :=
  ⟨⟨by decide, by decide, by decide⟩, by decide, by decide, by decide, by decide, by decide, by decide⟩

/-- TEMP_BYTE = 2 at -128, and TEMP_BYTE = 1 at 127. -/
theorem witness_TemperatureReplyIsSigned :
    ({ checking with rxbuf := ⟨0x04, 0, 0x80, 0, 0, 0⟩ } : State).HasValidReply ∧ ({ checking with rxbuf := ⟨0x04, 0, 0x80, 0, 0, 0⟩ } : State).config.tempByte = 2 ∧
    ((-128 : Int) ≤ -128 ∧ (-128 : Int) ≤ 127 ∧ (-128 : Int) % 256 = (0x80 : Byte).toNat) ∧
    ({ checking with rxbuf := ⟨0x04, 0x7F, 0, 0, 0, 0⟩, config := { Config.atReset with tempByte := 1 } } : State).HasValidReply ∧
    ((127 : Int) % 256 = (0x7F : Byte).toNat) :=
  ⟨⟨by decide, by decide, by decide⟩, by decide, by decide, ⟨by decide, by decide, by decide⟩, by decide⟩

theorem witness_SetRepliesAreRaw :
    checking.HasValidReply ∧ Instr.pulseS 0xFF ∈
      [Instr.armS 0, .sarmS 0, .alarmS 0, .salarmS 0, .relayS 0xFF, .buzzerS 0xFF, .pulseS 0xFF] :=
  ⟨⟨by decide, by decide, by decide⟩, by decide⟩

theorem witness_ReservedReplyBytesAreIgnored :
    ({ checking with rxbuf := ⟨0x04, 0, 0x83, 0x11, 0x22, 0x33⟩ } : State).HasValidReply :=
  ⟨by decide, by decide, by decide⟩

theorem witness_ControlRepliesDecodeNothing :
    checking.HasValidReply ∧ Instr.reset ∈ [Instr.ping, .enable, .disable, .reset] :=
  ⟨⟨by decide, by decide, by decide⟩, by decide⟩

/-- A digit string, from its bytes. -/
theorem digitString_of_isDecimal (d : Text) (h : isDecimal d = true) : DigitString d :=
  (isDecimal_iff d).1 h

theorem witness_PlanHelpQueryAndNoSet :
    Action.reset ∈ [Action.ping, .temp, .status, .switches, .version, .enable, .disable, .reset] ∧
    ([] : Text) ≠ ascii "?" ∧ ascii "??" ≠ ascii "?" := by decide

/-- No digit string, 65536, and 65535 with leading zeros. -/
theorem witness_TimerArgumentIsPlanned :
    (ascii "1e3" ≠ ascii "?" ∧ ¬ DigitString (ascii "1e3") ∧ ¬ DigitString []) ∧
    (DigitString (ascii "65536") ∧ 65535 < positionalValue (ascii "65536")) ∧
    (DigitString (ascii "0065535") ∧
      positionalValue (ascii "0065535") = (0xFFFF : BitVec 16).toNat) := by
  refine ⟨⟨by decide, ?_, ?_⟩, ⟨digitString_of_isDecimal _ (by decide), ?_⟩,
    digitString_of_isDecimal _ (by decide), ?_⟩
  · rw [← isDecimal_iff]; decide
  · rw [← isDecimal_iff]; decide
  · rw [← decimalValue_eq]; decide
  · rw [← decimalValue_eq]; decide

theorem witness_RelayArgumentLaw : ascii "OFF,ON" ≠ ascii "?" ∧ ([] : Text) ≠ ascii "?" := by decide

theorem witness_BuzzerArgumentIsAdditive : ascii "on,?" ≠ ascii "?" := by decide

theorem witness_CounterClearTakesOnlyZero :
    ascii "00" ≠ ascii "0" ∧ ascii "00" ≠ ascii "?" := by decide

/-- 255 and 256 by each suffix. -/
theorem witness_PulseArgumentIsPlanned :
    DigitString (ascii "255") ∧ positionalValue (ascii "255") = (255 : Byte).toNat ∧
    DigitString (ascii "256") ∧ 255 < positionalValue (ascii "256") ∧
    positionalValue (ascii "12799") / 50 = (255 : Byte).toNat ∧
    255 < positionalValue (ascii "12800") / 50 ∧
    positionalValue (ascii "12") * 20 = (240 : Byte).toNat ∧
    255 < positionalValue (ascii "13") * 20 := by
  simp only [← decimalValue_eq]
  exact ⟨digitString_of_isDecimal _ (by decide), by decide, digitString_of_isDecimal _ (by decide),
    by decide, by decide, by decide, by decide, by decide⟩

/-- "5MS" is outside the grammar: no argument inside it holds the byte 'M'. -/
theorem witness_PulseArgumentOutsideGrammar :
    ascii "5MS" ≠ ascii "?" ∧
    ∀ d suffix, DigitString d → suffix ∈ [([] : Text), ascii "ms", ascii "second", ascii "seconds"] →
      ascii "5MS" ≠ d ++ suffix ∧ ascii "5MS" ≠ ascii "-" ++ d ++ suffix := by
  refine ⟨by decide, ?_⟩
  intro d suffix hd hs
  have hM : (0x4D : Byte) ∈ ascii "5MS" := by decide
  have hd' : (0x4D : Byte) ∉ d := fun h => by
    have := (hd.2 _ h).2
    simp at this
  have hs' : (0x4D : Byte) ∉ suffix := by
    simp only [List.mem_cons, List.not_mem_nil, or_false] at hs
    rcases hs with rfl | rfl | rfl | rfl <;> decide
  have hm' : (0x4D : Byte) ∉ ascii "-" := by decide
  constructor
  · intro h
    rw [h, List.mem_append] at hM
    tauto
  · intro h
    rw [h, List.mem_append, List.mem_append] at hM
    tauto

theorem witness_UsageErrorMakesNoTransaction :
    (offering .trigger (some (ascii "5"))).resetAsserted = none ∧
    (offering .trigger (some (ascii "5"))).state = 0 ∧
    (offering .trigger (some (ascii "5"))).cmd = ⟨.trigger, some (ascii "5")⟩ :: [] ∧
    plan (offering .trigger (some (ascii "5"))).config .trigger (some (ascii "5")) =
      .usage .counterArg ∧
    ∃ t, step (offering .trigger (some (ascii "5"))) = .next t :=
  ⟨by decide, by decide, by decide, by decide, _, rfl⟩

theorem witness_FatalHoldsUntilReset :
    stoppedAtWrite.Live ∧ stoppedAtWrite.state = 4 ∧
    ∃ t, step { stoppedAtWrite with rst := [some ⟨none, 0⟩] } = .next t :=
  ⟨⟨by decide, by decide, by decide⟩, by decide, _, rfl⟩

/-- A step in each state that has one. -/
theorem witness_TransitionsAreTheTable :
    (∃ t, step (offering .ping none) = .next t) ∧
    (∃ t, step { writing with chw := [⟨.ok 6, 0⟩] } = .next t) ∧
    (∃ t, step { reading with chr := [.err] } = .next t) ∧ (∃ t, step checking = .next t) :=
  ⟨⟨_, rfl⟩, ⟨_, rfl⟩, ⟨_, rfl⟩, _, rfl⟩

/-- Each kind of transaction is made by some step. -/
theorem witness_PortsGrowInTheirStates :
    (next? (step (offering .ping none))).map (·.ports) = some [.cmd ⟨.ping, none⟩] ∧
    (next? (step { writing with chw := [⟨.ok 6, 0⟩] })).map (fun t => writeCount t.ports) = some 1 ∧
    (next? (step { reading with chr := [.err] })).map (·.ports) = some [.chanRead 6 .err] ∧
    (next? (step checking)).map (fun t => resCount t.ports) = some 1 := by decide

/-- Two IDLE states that differ in the exchange registers, and an ACCEPT step. -/
theorem witness_NothingCarriesOver :
    ({ State.reset with txbuf := ⟨1, 2, 3, 0, 0, 0⟩, rxcnt := 4 } : State).state = 0 ∧
    ({ State.reset with txbuf := ⟨1, 2, 3, 0, 0, 0⟩, rxcnt := 4 } : State).withoutExchange =
      State.reset.withoutExchange ∧
    (next? (step (offering .ping none))).map (·.state) = some 1 := by decide

/-- A status query whose write completes and whose reply is 95_test_vectors.md W7's. -/
def answeredOffer : State :=
  { offering .status none with chw := [⟨.ok 6, 0⟩], chr := [.ok [0x04, 0, 0x83, 0, 0, 0]] }

/-- The same offer with a channel that fails the write. -/
def failedOffer : State := { offering .status none with chw := [⟨.err, 0⟩], chr := [.err] }

theorem witness_ValidExchangeRunsThrough :
    answeredOffer.Live ∧ answeredOffer.rst = [] ∧ answeredOffer.state = 0 ∧
    answeredOffer.cmd = ⟨.status, none⟩ :: [] ∧
    plan answeredOffer.config .status none = .tx .status ∧
    answeredOffer.chw = ⟨.ok 6, 0⟩ :: [] ∧
    answeredOffer.chr = .ok [opcodeOf answeredOffer.config .status, 0, 0x83, 0, 0, 0] :: [] :=
  ⟨⟨by decide, by decide, by decide⟩, by decide, by decide, by decide, by decide, by decide, by decide⟩

/-- An exchange that ends in IDLE and one that ends in FATAL, each with every hypothesis. -/
theorem witness_CommandEndsWhenChannelAnswers :
    (answeredOffer.Live ∧ answeredOffer.rst = [] ∧ answeredOffer.state = 0 ∧
      answeredOffer.cmd = ⟨.status, none⟩ :: [] ∧
      plan answeredOffer.config .status none = .tx .status ∧
      answeredOffer.chw = ⟨.ok 6, 0⟩ :: [] ∧
      answeredOffer.chr = .ok [0x04, 0, 0x83, 0, 0, 0] :: []) ∧
    (failedOffer.Live ∧ failedOffer.rst = [] ∧ failedOffer.state = 0 ∧
      failedOffer.cmd = ⟨.status, none⟩ :: [] ∧
      plan failedOffer.config .status none = .tx .status ∧
      failedOffer.chw = ⟨.err, 0⟩ :: [] ∧ failedOffer.chr = .err :: []) :=
  ⟨⟨⟨by decide, by decide, by decide⟩, by decide, by decide, by decide, by decide, by decide,
      by decide⟩,
    ⟨by decide, by decide, by decide⟩, by decide, by decide, by decide, by decide, by decide,
    by decide⟩

theorem witness_IdleWaitsForAnOffer :
    State.reset.Live ∧ State.reset.state = 0 ∧ State.reset.cmd = [] :=
  ⟨live_reset, by decide, by decide⟩

end Sys2Proof.Tests
end

section
/-! The Packet Codec (40_codec.md): one equation per direction, and the obligation they settle. -/

namespace Sys2Proof

/-- R61: the operands stand in bytes 0 to 2 and the reserved bytes are zero, with no operand triple
excluded. -/
theorem encodePacket_eq (opc f1 f2 : Byte) :
    encodePacket opc f1 f2 = ⟨opc, f1, f2, 0x00, 0x00, 0x00⟩ := rfl

/-- R62: only bytes 0 to 2 are read, so the equation holds of every packet, valid or not. -/
theorem decodeFields_eq (p : Packet) : decodeFields p = (p.p0, p.p1, p.p2) := rfl

/-- Settles O9: the equations of R61 and R62, the second at a packet given by its bytes. -/
theorem codecEncodesAndDecodes : Obligations.CodecEncodesAndDecodes := by
  unfold Obligations.CodecEncodesAndDecodes
  constructor
  · exact encodePacket_eq
  · intro p0 p1 p2 p3 p4 p5
    exact decodeFields_eq ⟨p0, p1, p2, p3, p4, p5⟩

end Sys2Proof
end

section
/-! The ACCEPT step (41_exchange.md R67, R68): what a step in IDLE does with the oldest offer, which steps
leave CMD alone, and the obligations they settle. -/

namespace Sys2Proof.Machine

/-! ### The request a command sends -/

theorem requestOf_opc (c : Config) (i : Instr) : (requestOf c i).opc = opcodeOf c i := by
  cases i <;> rfl

/-- What ACCEPT writes in TXBUF is the encoder's packet. -/
theorem encodePacket_requestOf (c : Config) (i : Instr) :
    encodePacket (requestOf c i).opc (requestOf c i).f1 (requestOf c i).f2 = encode c i := by
  cases i <;> rfl

/-- ACCEPT of a planned offer, register by register (R68). -/
theorem State.accept_of_plan {c : Config} {o : Offer} {i : Instr} (s : State)
    (hp : plan c o.act o.arg = .tx i) :
    s.accept (requestOf c i) =
      { s with
        act := o.act.code
        kind := if o.arg = none then 0 else 1
        txbuf := encode c i
        sentOpc := opcodeOf c i
        rxbuf := ⟨0, 0, 0, 0, 0, 0⟩
        rxcnt := 0
        state := 1 } := by
  obtain ⟨hact, hkind⟩ := plan_request hp
  have hcode : (requestOf c i).kind.code = if o.arg = none then 0 else 1 := by
    rw [hkind]; split <;> rfl
  rw [State.accept, encodePacket_requestOf, requestOf_opc, hact, hcode]
  rfl

/-! ### A step in IDLE with an offer -/

section
variable {s : State} {o : Offer} {rest : List Offer}

/-- An offer PLAN turns down: it is taken, and the usage error raised (R68). -/
theorem step_of_usage {u : Usage} (h : s.Live) (h0 : s.state = 0) (hcmd : s.cmd = o :: rest)
    (hp : plan s.config o.act o.arg = .usage u) :
    step s = .next ((s.noReset.takeOffer o rest).raise (.usage o.act u)) := by
  have hn : nextStep s = .other (.next ((s.noReset.takeOffer o rest).raise (.usage o.act u))) := by
    simp [nextStep_of_live h, proceed, Phase.ofCode, h0, hcmd, hp]
  rw [step, hn]

/-- An offer PLAN gives a command for: it is taken, and the command's request accepted (R68). -/
theorem step_of_planned {i : Instr} (h : s.Live) (h0 : s.state = 0) (hcmd : s.cmd = o :: rest)
    (hp : plan s.config o.act o.arg = .tx i) :
    step s = .next ((s.noReset.takeOffer o rest).accept (requestOf s.config i)) := by
  have hn : nextStep s = .run i (s.noReset.takeOffer o rest) := by
    simp [nextStep_of_live h, proceed, Phase.ofCode, h0, hcmd, hp]
  rw [step, hn]
  exact (exec_eq_runCommand i _).trans (runCommand_idle _ _ _ h0)

end

/-- A step that goes on and is no reset is taken in a live state. -/
theorem State.Live.of_step_next {s t : State} (hr : s.resetAsserted = none) (h : step s = .next t) :
    s.Live := by
  obtain ⟨hc, ⟨r, hr', -⟩ | ⟨-, hn, -⟩⟩ := step_next h
  · rw [hr] at hr'; cases hr'
  · exact ⟨hc, hr, hn⟩

/-! ### The steps that leave CMD alone -/

@[simp] theorem State.afterWrite_cmd (r : WriteResult) (s : State) : (s.afterWrite r).cmd = s.cmd := by
  obtain ⟨-, h⟩ | ⟨c, -, -, h⟩ | ⟨-, h⟩ := s.afterWrite_cases r <;> rw [h] <;> rfl

@[simp] theorem State.afterRead_cmd (r : ReadAnswer) (s : State) : (s.afterRead r).cmd = s.cmd := by
  obtain ⟨-, h⟩ | ⟨b, -, -, -, h⟩ | ⟨b, -, -, h⟩ := s.afterRead_cases r <;> rw [h] <;> rfl

@[simp] theorem State.check_cmd (post : Config → Packet → Posted) (s : State) :
    (s.check post).cmd = s.cmd := by
  cases h : s.replyValid
  · rw [State.check_invalid post s h]
  · rw [State.check_valid post s h]

/-- No step outside IDLE takes an offer, a reset no more than an exchange (R68, R75). -/
theorem step_cmd_of_not_idle {s t : State} (h0 : s.state ≠ 0) (h : step s = .next t) :
    t.cmd = s.cmd := by
  obtain ⟨-, ⟨r, -, rfl⟩ | ⟨-, -, hwait | husage | haccept | hwrite | hread | hcheck⟩⟩ := step_next h
  · simp
  · exact absurd hwait.1 h0
  · obtain ⟨o, rest, u, hidle, -⟩ := husage
    exact absurd hidle h0
  · obtain ⟨o, rest, i, hidle, -⟩ := haccept
    exact absurd hidle h0
  · obtain ⟨i, -, -, hw⟩ := hwrite
    obtain ⟨a, later, -, rfl⟩ := writeStep_next hw
    simp
  · obtain ⟨i, -, -, hr⟩ := hread
    obtain ⟨a, later, -, rfl⟩ := readStep_next hr
    simp
  · obtain ⟨i, -, -, rfl⟩ := hcheck
    simp

/-! ### The obligations -/

/-- Settles O22: PLAN's two arms by `step_of_usage` and `step_of_planned`, and CMD outside IDLE by the
cases of a step. -/
theorem acceptStep : Obligations.AcceptStep := by
  unfold Obligations.AcceptStep
  refine ⟨fun s o rest hlive h0 hcmd => ⟨fun u hp => ?_, fun i hp => ?_⟩,
    fun s t h0 h => step_cmd_of_not_idle h0 h⟩
  · rw [step_of_usage hlive h0 hcmd hp]
    simp [State.raise, State.takeOffer, State.post, State.noReset]
  · rw [step_of_planned hlive h0 hcmd hp, State.accept_of_plan _ hp]
    rfl

/-- Settles O53: the one step there is takes the offer and raises the usage error, and neither record it
posts is a channel transaction. -/
theorem usageErrorMakesNoTransaction : Obligations.UsageErrorMakesNoTransaction := by
  unfold Obligations.UsageErrorMakesNoTransaction
  intro s t o rest u hr h0 hcmd hp h
  have hlive : s.Live := .of_step_next hr h
  rw [step_of_usage hlive h0 hcmd hp] at h
  cases h
  simp [writeCount, readCount, h0]

end Sys2Proof.Machine
end

section
/-! The flag decoders (42_status_switches.md R80, 44_relay.md R104, 45_buzzer.md R110): each decoder's
masks written out, and the obligation they settle. -/

namespace Sys2Proof.Machine

/-- A flag as the decoders compute it, and as the rules word it: the byte AND the mask is nonzero. -/
theorem maskTest_eq_decide (b m : Byte) : (b &&& m != 0) = decide (b &&& m ≠ 0) :=
  decide_not.symm

theorem statusDecode_eq (b : Byte) :
    statusDecode b =
      ⟨decide (b &&& 0x80 ≠ 0), decide (b &&& 0x01 ≠ 0), decide (b &&& 0x02 ≠ 0)⟩ := by
  simp only [statusDecode, lit, maskTest_eq_decide]

theorem buzzerDecode_eq (b : Byte) :
    buzzerDecode b =
      ⟨decide (b &&& 0x01 ≠ 0), decide (b &&& 0x02 ≠ 0), decide (b &&& 0x04 ≠ 0),
        decide (b &&& 0x08 ≠ 0), decide (b &&& 0x80 ≠ 0)⟩ := by
  simp only [buzzerDecode, lit, maskTest_eq_decide]

theorem relayDecode_on (b : Byte) : (relayDecode b).on = decide (b &&& 0x01 ≠ 0) :=
  maskTest_eq_decide b 0x01

theorem relayDecode_inversion (b : Byte) :
    (relayDecode b).inversion = decide (b &&& 0x80 ≠ 0) :=
  maskTest_eq_decide b 0x80

/-- The mode's two tests in R104's order: LATCH before PULSE. -/
theorem relayDecode_mode (b : Byte) :
    (relayDecode b).mode =
      if b &&& 0x04 ≠ 0 then .latch else if b &&& 0x02 ≠ 0 then .pulse else .none := by
  simp only [relayDecode, lit, bne_iff_ne]

/-- The three modes told apart by the two masks: one case for each way through the two tests. -/
theorem relayDecode_mode_iff (b : Byte) :
    ((relayDecode b).mode = .latch ↔ b &&& 0x04 ≠ 0) ∧
    ((relayDecode b).mode = .pulse ↔ b &&& 0x04 = 0 ∧ b &&& 0x02 ≠ 0) ∧
    ((relayDecode b).mode = .none ↔ b &&& 0x04 = 0 ∧ b &&& 0x02 = 0) := by
  rw [relayDecode_mode]
  split
  case isTrue hlatch => simp_all
  case isFalse hlatch =>
    split
    case isTrue hpulse => simp_all
    case isFalse hpulse => simp_all

/-- Settles O42: the three decoders' equations, and the relay mode by its two tests. -/
theorem decodersReadTheirMasks : Obligations.DecodersReadTheirMasks := by
  unfold Obligations.DecodersReadTheirMasks
  intro b
  obtain ⟨hlatch, hpulse, hnone⟩ := relayDecode_mode_iff b
  exact ⟨statusDecode_eq b, relayDecode_on b, relayDecode_inversion b, hlatch, hpulse, hnone,
    buzzerDecode_eq b⟩

end Sys2Proof.Machine
end

section
/-! The timer encoding (43_timers.md R88 to R90): the value of each of its two bytes, and the obligations
they settle. -/

namespace Sys2Proof.Machine

/-- `hi8` as R11's bits 15:8 by arithmetic: all above the low byte. -/
theorem hi8_toNat (t : BitVec 16) : (hi8 t).toNat = t.toNat / 256 := by
  have hlt : t.toNat / 256 < 256 := by omega
  simp only [hi8, BitVec.extractLsb'_toNat, Nat.shiftRight_eq_div_pow]
  exact Nat.mod_eq_of_lt hlt

theorem lo8_toNat (t : BitVec 16) : (lo8 t).toNat = t.toNat % 256 := by
  simp only [lo8, BitVec.extractLsb'_toNat, Nat.shiftRight_zero, Nat.reducePow]

/-- Settles O16: the encoding is the pair of `hi8` and `lo8`. -/
theorem timerEncodeSplitsBigEndian : Obligations.TimerEncodeSplitsBigEndian := by
  unfold Obligations.TimerEncodeSplitsBigEndian
  exact fun t => ⟨hi8_toNat t, lo8_toNat t⟩

/-- Settles O15: joining the two bytes of a word gives the word back (`be16_hi8_lo8`). -/
theorem timerRoundTrip : Obligations.TimerRoundTrip := by
  unfold Obligations.TimerRoundTrip
  exact fun t => congrArg BitVec.toNat (be16_hi8_lo8 t)

end Sys2Proof.Machine
end

section
/-! The comma-separated tokens (44_relay.md R102 to R103, 45_buzzer.md R109): the split, what a fold over
tokens does to one bit, what RELAY_ENCODE and BUZZER_ENCODE set. -/

namespace Sys2Proof.Machine

/-! ### The split -/

theorem splitComma_ne_nil (a : Text) : splitComma a ≠ [] := by
  induction a with
  | nil => simp [splitComma]
  | cons b rest ih =>
    unfold splitComma
    split
    · simp
    · split <;> simp

theorem splitComma_cons_comma (rest : Text) : splitComma (comma :: rest) = [] :: splitComma rest := by
  simp [splitComma]

/-- A byte that is no comma stands at the front of the first piece. -/
theorem splitComma_cons_of_ne {b : Byte} {rest : Text} (hb : b ≠ comma) :
    ∃ tok toks, splitComma rest = tok :: toks ∧ splitComma (b :: rest) = (b :: tok) :: toks := by
  obtain ⟨tok, toks, h⟩ := List.exists_cons_of_ne_nil (splitComma_ne_nil rest)
  exact ⟨tok, toks, h, by simp [splitComma, hb, h]⟩

theorem joinComma_nil_cons {toks : List Text} (h : toks ≠ []) :
    joinComma ([] :: toks) = comma :: joinComma toks := by
  cases toks with
  | nil => exact absurd rfl h
  | cons tok toks => rfl

theorem joinComma_cons_cons (b : Byte) (tok : Text) (toks : List Text) :
    joinComma ((b :: tok) :: toks) = b :: joinComma (tok :: toks) := by
  cases toks <;> rfl

theorem joinComma_splitComma (a : Text) : joinComma (splitComma a) = a := by
  induction a with
  | nil => rfl
  | cons b rest ih =>
    by_cases hb : b = comma
    · rw [hb, splitComma_cons_comma, joinComma_nil_cons (splitComma_ne_nil rest), ih]
    · obtain ⟨tok, toks, hrest, hcons⟩ := splitComma_cons_of_ne (rest := rest) hb
      rw [hcons, joinComma_cons_cons, ← hrest, ih]

theorem comma_notMem_of_mem_splitComma (a : Text) : ∀ tok ∈ splitComma a, comma ∉ tok := by
  induction a with
  | nil => simp [splitComma]
  | cons b rest ih =>
    by_cases hb : b = comma
    · rw [hb, splitComma_cons_comma]
      simpa using ih
    · obtain ⟨tok, toks, hrest, hcons⟩ := splitComma_cons_of_ne (rest := rest) hb
      rw [hrest] at ih
      rw [hcons]
      simpa [Ne.symm hb] using ih

theorem splitComma_length (a : Text) : (splitComma a).length = a.count comma + 1 := by
  induction a with
  | nil => rfl
  | cons b rest ih =>
    by_cases hb : b = comma
    · rw [hb, splitComma_cons_comma]
      simp [ih]
    · obtain ⟨tok, toks, hrest, hcons⟩ := splitComma_cons_of_ne (rest := rest) hb
      rw [hrest] at ih
      rw [hcons, List.count_cons_of_ne hb]
      exact ih

/-- Settles O47: each of the four facts by induction on the argument, a comma or another byte in front. -/
theorem splitCutsAtEveryComma : Obligations.SplitCutsAtEveryComma := by
  unfold Obligations.SplitCutsAtEveryComma
  intro a
  exact ⟨joinComma_splitComma a, splitComma_ne_nil a, comma_notMem_of_mem_splitComma a,
    splitComma_length a⟩

/-! ### One bit of a fold over tokens -/

/-- When each token keeps a bit or sets it, the fold has it set exactly if some token set it. -/
theorem getLsbD_foldl_iff {f : Byte → Text → Byte} {k : Nat} {P : Text → Prop}
    (hf : ∀ v tok, (f v tok).getLsbD k = true ↔ v.getLsbD k = true ∨ P tok) (toks : List Text) :
    (toks.foldl f 0).getLsbD k = true ↔ ∃ tok ∈ toks, P tok := by
  suffices h : ∀ v, (toks.foldl f v).getLsbD k = true ↔ v.getLsbD k = true ∨ ∃ tok ∈ toks, P tok by
    simpa using h 0
  induction toks with
  | nil => simp
  | cons tok toks ih =>
    intro v
    rw [List.foldl_cons, ih, hf]
    simp [or_assoc]

/-- Bits no token touches stay clear. -/
theorem foldl_and_eq_zero {f : Byte → Text → Byte} {m : Byte}
    (hf : ∀ v tok, f v tok &&& m = v &&& m) (toks : List Text) : toks.foldl f 0 &&& m = 0 := by
  suffices h : ∀ v, toks.foldl f v &&& m = v &&& m by simpa using h 0
  induction toks with
  | nil => simp
  | cons tok toks ih => intro v; rw [List.foldl_cons, ih, hf]

/-! ### The relay law -/

theorem relayWords_nodup :
    [ascii "on", ascii "off", ascii "pulse", ascii "latch", ascii "inversion"].Nodup := by decide

theorem buzzerWords_nodup :
    [ascii "on", ascii "off", ascii "short", ascii "annoying", ascii "store"].Nodup := by decide

/-- The relay bits a token only ever sets, and its word (R102). -/
def relayFlags : List (Nat × String) := [(1, "pulse"), (2, "latch"), (7, "inversion")]

/-- The words exclude each other, so each of these bits answers to one word. -/
theorem relayToken_getLsbD {k : Nat} {word : String} (h : (k, word) ∈ relayFlags) (v : Byte)
    (tok : Text) :
    (relayToken v tok).getLsbD k = true ↔ v.getLsbD k = true ∨ lower tok = ascii word := by
  have hw := relayWords_nodup
  simp only [List.nodup_cons, List.mem_cons, List.not_mem_nil, or_false, not_or] at hw
  simp only [relayFlags, List.mem_cons, List.not_mem_nil, or_false, Prod.mk.injEq] at h
  unfold relayToken
  rcases h with ⟨rfl, rfl⟩ | ⟨rfl, rfl⟩ | ⟨rfl, rfl⟩ <;> split_ifs <;> simp_all [lit]

theorem relayEncode_getLsbD {k : Nat} {word : String} (h : (k, word) ∈ relayFlags) (a : Text) :
    (relayEncode a).getLsbD k = true ↔ HasToken a word :=
  getLsbD_foldl_iff (relayToken_getLsbD h) (splitComma a)

theorem relayToken_unused (v : Byte) (tok : Text) : relayToken v tok &&& 0x78 = v &&& 0x78 := by
  unfold relayToken
  split_ifs <;> simp only [lit] <;> revert v <;> decide

/-- The words that decide bit 0. -/
def isSwitchWord (t : Text) : Bool := decide (t = ascii "on" ∨ t = ascii "off")

theorem relayToken_on {v : Byte} {tok : Text} (h : lower tok = ascii "on") :
    (relayToken v tok).getLsbD 0 = true := by
  simp [relayToken, h, lit]

theorem relayToken_off {v : Byte} {tok : Text} (h : lower tok = ascii "off") :
    (relayToken v tok).getLsbD 0 = false := by
  have hne : ascii "off" ≠ ascii "on" := by decide
  simp [relayToken, h, hne, lit]

theorem relayToken_bit0_of_not_switchWord {v : Byte} {tok : Text}
    (h : isSwitchWord (lower tok) = false) :
    (relayToken v tok).getLsbD 0 = v.getLsbD 0 := by
  simp only [isSwitchWord, decide_eq_false_iff_not, not_or] at h
  unfold relayToken
  rw [if_neg h.1, if_neg h.2]
  split_ifs <;> simp [lit]

/-- Bit 0 is the last of the ON and OFF tokens (R103): by induction from the last token. -/
theorem foldl_relayToken_bit0 (toks : List Text) :
    (toks.foldl relayToken 0).getLsbD 0 = true ↔
      ((toks.map lower).filter isSwitchWord).getLast? = some (ascii "on") := by
  induction toks using List.reverseRecOn with
  | nil => simp
  | append_singleton toks tok ih =>
    rw [List.foldl_append, List.map_append, List.filter_append]
    simp only [List.foldl_cons, List.foldl_nil, List.map_cons, List.map_nil]
    cases hw : isSwitchWord (lower tok) with
    | false =>
      rw [relayToken_bit0_of_not_switchWord hw, ih]
      simp [hw]
    | true =>
      have hlast : (List.filter isSwitchWord [lower tok]) = [lower tok] := by simp [hw]
      rw [hlast, List.getLast?_concat]
      obtain h | h : lower tok = ascii "on" ∨ lower tok = ascii "off" := by
        simpa [isSwitchWord] using hw
      · simp [relayToken_on h, h]
      · have hne : ascii "off" ≠ ascii "on" := by decide
        rw [relayToken_off h, h]
        simp [hne]

theorem relayEncode_unused (a : Text) : relayEncode a &&& 0x78 = 0 :=
  foldl_and_eq_zero relayToken_unused (splitComma a)

/-! ### The buzzer -/

/-- The buzzer bits and their words (R109). -/
def buzzerFlags : List (Nat × String) :=
  [(0, "short"), (1, "annoying"), (2, "on"), (3, "off"), (7, "store")]

/-- The words exclude each other, so each bit answers to one word. -/
theorem buzzerToken_getLsbD {k : Nat} {word : String} (h : (k, word) ∈ buzzerFlags) (v : Byte)
    (tok : Text) :
    (buzzerToken v tok).getLsbD k = true ↔ v.getLsbD k = true ∨ lower tok = ascii word := by
  have hw := buzzerWords_nodup
  simp only [List.nodup_cons, List.mem_cons, List.not_mem_nil, or_false, not_or] at hw
  simp only [buzzerFlags, List.mem_cons, List.not_mem_nil, or_false, Prod.mk.injEq] at h
  unfold buzzerToken
  rcases h with ⟨rfl, rfl⟩ | ⟨rfl, rfl⟩ | ⟨rfl, rfl⟩ | ⟨rfl, rfl⟩ | ⟨rfl, rfl⟩ <;>
    split_ifs <;> simp_all [lit]

theorem buzzerEncode_getLsbD {k : Nat} {word : String} (h : (k, word) ∈ buzzerFlags) (a : Text) :
    (buzzerEncode a).getLsbD k = true ↔ HasToken a word :=
  getLsbD_foldl_iff (buzzerToken_getLsbD h) (splitComma a)

theorem buzzerToken_unused (v : Byte) (tok : Text) : buzzerToken v tok &&& 0x70 = v &&& 0x70 := by
  unfold buzzerToken
  split_ifs <;> simp only [lit] <;> revert v <;> decide

theorem buzzerEncode_unused (a : Text) : buzzerEncode a &&& 0x70 = 0 :=
  foldl_and_eq_zero buzzerToken_unused (splitComma a)

end Sys2Proof.Machine
end

section
/-! PLAN (41_exchange.md R65): every action is a query and perhaps a set arm, and the obligations about the
arguments. -/

namespace Sys2Proof.Machine

/-- The query of each action. -/
def queryOf : Action → Instr
  | .ping => .ping
  | .temp => .temp
  | .status => .status
  | .switches => .switches
  | .version => .version
  | .armTime => .armQ
  | .storedArmTime => .sarmQ
  | .alarm => .alarmQ
  | .storedAlarm => .salarmQ
  | .trigger => .trigQ
  | .enable => .enable
  | .disable => .disable
  | .relay => .relayQ
  | .buzzer => .buzzerQ
  | .count => .countQ
  | .pulse => .pulseQ
  | .reset => .reset

/-- What each action makes of an argument, none for an action with no set operation. -/
def setArmOf (c : Config) : Action → Option (Text → Planned)
  | .armTime => some (planParsed timerParse .armS)
  | .storedArmTime => some (planParsed timerParse .sarmS)
  | .alarm => some (planParsed timerParse .alarmS)
  | .storedAlarm => some (planParsed timerParse .salarmS)
  | .trigger => some (planParsed (counterClearParse c) (fun _ => .trigClr))
  | .relay => some (fun a => .tx (.relayS (relayEncode a)))
  | .buzzer => some (fun a => .tx (.buzzerS (buzzerEncode a)))
  | .count => some (planParsed (counterClearParse c) (fun _ => .countClr))
  | .pulse => some (planParsed pulseParse .pulseS)
  | .ping | .temp | .status | .switches | .version | .enable | .disable | .reset => none

theorem plan_eq_planWith (c : Config) (act : Action) (arg : Option Text) :
    plan c act arg = planWith (queryOf act) (setArmOf c act) arg := by
  cases act <;> rfl

theorem plan_none (c : Config) (act : Action) : plan c act none = .tx (queryOf act) := by
  rw [plan_eq_planWith, planWith_none]

theorem plan_help (c : Config) (act : Action) : plan c act (some helpArg) = .usage .help := by
  rw [plan_eq_planWith, planWith_help]

theorem plan_noSet {c : Config} {act : Action} (h : setArmOf c act = none) {a : Text}
    (ha : a ≠ helpArg) : plan c act (some a) = .usage .noSet := by
  rw [plan_eq_planWith, h, planWith_noSet _ _ ha]

theorem plan_set {c : Config} {act : Action} {f : Text → Planned} (h : setArmOf c act = some f)
    {a : Text} (ha : a ≠ helpArg) : plan c act (some a) = f a := by
  rw [plan_eq_planWith, h, planWith_set _ _ _ ha]

/-- A set arm that parses its argument, by what the parser answers. -/
theorem planParsed_of_usage {α : Type} {parse : Text → Parsed α} {a : Text} {u : Usage}
    (h : parse a = .usage u) (command : α → Instr) : planParsed parse command a = .usage u := by
  rw [planParsed, h]

theorem planParsed_of_ok {α : Type} {parse : Text → Parsed α} {a : Text} {x : α}
    (h : parse a = .ok x) (command : α → Instr) : planParsed parse command a = .tx (command x) := by
  rw [planParsed, h]

/-- Settles O45: the three arms of PLAN's common start. -/
theorem planHelpQueryAndNoSet : Obligations.PlanHelpQueryAndNoSet := by
  unfold Obligations.PlanHelpQueryAndNoSet
  intro c
  refine ⟨plan_help c, fun act hact a ha => ?_, fun x hx => ?_⟩
  · have hset : setArmOf c act = none := by
      simp only [List.mem_cons, List.not_mem_nil, or_false] at hact
      rcases hact with rfl | rfl | rfl | rfl | rfl | rfl | rfl | rfl <;> rfl
    exact plan_noSet hset ha
  · have hquery : x.2 = queryOf x.1 := by
      revert x
      decide
    rw [hquery, plan_none]

/-! ### The tokens -/

/-- Settles O48: bits 1, 2 and 7 by their words, bit 0 by the last switch word. -/
theorem relayArgumentLaw : Obligations.RelayArgumentLaw := by
  unfold Obligations.RelayArgumentLaw
  intro c a ha
  have flag : ∀ x ∈ relayFlags, (relayEncode a).getLsbD x.1 = true ↔ HasToken a x.2 :=
    fun x hx => relayEncode_getLsbD hx a
  simp only [relayFlags, List.forall_mem_cons] at flag
  obtain ⟨hpulse, hlatch, hinversion, -⟩ := flag
  exact ⟨relayEncode a, plan_set (act := .relay) rfl ha, hpulse, hlatch, hinversion,
    relayEncode_unused a, foldl_relayToken_bit0 (splitComma a)⟩

/-- Settles O49: each bit by its word. -/
theorem buzzerArgumentIsAdditive : Obligations.BuzzerArgumentIsAdditive := by
  unfold Obligations.BuzzerArgumentIsAdditive
  intro c a ha
  have flag : ∀ x ∈ buzzerFlags, (buzzerEncode a).getLsbD x.1 = true ↔ HasToken a x.2 :=
    fun x hx => buzzerEncode_getLsbD hx a
  simp only [buzzerFlags, List.forall_mem_cons] at flag
  obtain ⟨hshort, hannoying, hon, hoff, hstore, -⟩ := flag
  exact ⟨buzzerEncode a, plan_set (act := .buzzer) rfl ha, hshort, hannoying, hon, hoff, hstore,
    buzzerEncode_unused a⟩

/-! ### The counter clear -/

theorem counterClearParse_zero (c : Config) :
    counterClearParse c (ascii "0") = .ok c.clearSentinel := if_pos rfl

theorem counterClearParse_other (c : Config) {a : Text} (h : a ≠ ascii "0") :
    counterClearParse c a = .usage .counterArg := if_neg h

/-- Settles O50: the parser's two branches, for both counters. -/
theorem counterClearTakesOnlyZero : Obligations.CounterClearTakesOnlyZero := by
  unfold Obligations.CounterClearTakesOnlyZero
  intro c
  have hzero : ascii "0" ≠ helpArg := by decide
  refine ⟨?_, ?_, fun a h0 ha => ⟨?_, ?_⟩⟩
  · rw [plan_set rfl hzero, planParsed_of_ok (counterClearParse_zero c)]
  · rw [plan_set rfl hzero, planParsed_of_ok (counterClearParse_zero c)]
  · rw [plan_set rfl ha, planParsed_of_usage (counterClearParse_other c h0)]
  · rw [plan_set rfl ha, planParsed_of_usage (counterClearParse_other c h0)]

/-! ### The timer argument -/

theorem timerParse_parse {a : Text} (h : ¬ DigitString a) : timerParse a = .usage .parse := by
  rw [timerParse, if_neg (mt (isDecimal_iff a).1 h)]

theorem timerParse_range {a : Text} (h : DigitString a) (hv : 65535 < positionalValue a) :
    timerParse a = .usage .range := by
  rw [timerParse, if_pos ((isDecimal_iff a).2 h), decimalValue_eq]
  exact if_pos hv

theorem timerParse_ok {a : Text} {t : BitVec 16} (h : DigitString a)
    (hv : positionalValue a = t.toNat) : timerParse a = .ok t := by
  have hle : ¬ lit.timerMax < t.toNat := by
    have := t.isLt
    simp only [lit]
    omega
  rw [timerParse, if_pos ((isDecimal_iff a).2 h), decimalValue_eq, hv, if_neg hle,
    BitVec.ofNat_toNat, BitVec.setWidth_eq]

/-- Settles O46: the three branches of TIMER_PARSE under the set arm of each timer. -/
theorem timerArgumentIsPlanned : Obligations.TimerArgumentIsPlanned := by
  unfold Obligations.TimerArgumentIsPlanned
  intro c a ha x hx
  have hset : setArmOf c x.1 = some (planParsed timerParse x.2) := by
    simp only [List.mem_cons, List.not_mem_nil, or_false] at hx
    rcases hx with rfl | rfl | rfl | rfl <;> rfl
  rw [plan_set hset ha]
  exact ⟨fun hd => planParsed_of_usage (timerParse_parse hd) _,
    fun hd hv => planParsed_of_usage (timerParse_range hd hv) _,
    fun t hd hv => planParsed_of_ok (timerParse_ok hd hv) _⟩

/-! ### The pulse argument -/

/-- The suffixes of R124. -/
def pulseSuffixes : List Text := [[], ascii "ms", ascii "second", ascii "seconds"]

/-- A suffix names a unit exactly when it is one of R124's. -/
theorem pulseUnit_isSome_iff (suffix : Text) :
    (pulseUnit suffix).isSome = true ↔ suffix ∈ pulseSuffixes := by
  unfold pulseUnit pulseSuffixes
  split_ifs <;> simp_all

/-- No suffix begins with a digit, so the leading run of digits ends where the suffix begins. -/
theorem takeWhile_isDigit_suffix {suffix : Text}
    (h : suffix ∈ pulseSuffixes) :
    suffix.takeWhile isDigit = [] := by
  revert suffix
  decide

theorem pulseGrammar_append {d suffix : Text} (hd : DigitString d)
    (hs : suffix ∈ pulseSuffixes) :
    pulseGrammar (d ++ suffix) = (pulseUnit suffix).map (fun u => (positionalValue d, u)) := by
  have hall : ∀ b ∈ d, isDigit b = true := fun b hb => by simpa [isDigit] using hd.2 b hb
  have htake : (d ++ suffix).takeWhile isDigit = d := by
    rw [List.takeWhile_append_of_pos hall, takeWhile_isDigit_suffix hs, List.append_nil]
  have hdrop : (d ++ suffix).dropWhile isDigit = suffix := by
    have := List.takeWhile_append_dropWhile (p := isDigit) (l := d ++ suffix)
    rw [htake] at this
    exact List.append_cancel_left this
  rw [pulseGrammar, htake, hdrop, decimalValue_eq, if_neg (by simpa using hd.1)]

/-- What the grammar reads is digits and one of the suffixes. -/
theorem exists_append_of_pulseGrammar {a : Text} (h : (pulseGrammar a).isSome = true) :
    ∃ d suffix, DigitString d ∧ suffix ∈ pulseSuffixes ∧ a = d ++ suffix := by
  unfold pulseGrammar at h
  split at h
  · simp at h
  · next hne =>
    refine ⟨a.takeWhile isDigit, a.dropWhile isDigit, ⟨by simpa using hne, fun b hb => ?_⟩, ?_,
      List.takeWhile_append_dropWhile.symm⟩
    · simpa [isDigit] using List.mem_takeWhile_imp hb
    · rw [Option.isSome_map] at h
      exact (pulseUnit_isSome_iff _).1 h

/-- A digit string is no minus sign, so an argument of the grammar is not negative. -/
theorem pulseNegative_append {d : Text} (hd : DigitString d) (suffix : Text) :
    pulseNegative (d ++ suffix) = false := by
  obtain ⟨hne, hdig⟩ := hd
  cases d with
  | nil => exact absurd rfl hne
  | cons b d =>
    have hb : b ≠ 0x2D := by
      rintro rfl
      simpa using (hdig _ List.mem_cons_self).1
    show (b == 0x2D && _) = false
    rw [beq_false_of_ne hb, Bool.false_and]

theorem exists_append_of_pulseNegative {a : Text} (h : pulseNegative a = true) :
    ∃ d suffix, DigitString d ∧ suffix ∈ pulseSuffixes ∧ a = ascii "-" ++ d ++ suffix := by
  cases a with
  | nil => simp [pulseNegative] at h
  | cons b rest =>
    simp only [pulseNegative, Bool.and_eq_true, beq_iff_eq] at h
    obtain ⟨d, suffix, hd, hs, rfl⟩ := exists_append_of_pulseGrammar h.2
    exact ⟨d, suffix, hd, hs, by rw [h.1]; rfl⟩

theorem pulseParse_negative {d suffix : Text} (hd : DigitString d)
    (hs : suffix ∈ pulseSuffixes) :
    pulseParse (ascii "-" ++ d ++ suffix) = .usage .negative := by
  have hg : (pulseGrammar (d ++ suffix)).isSome = true := by
    rw [pulseGrammar_append hd hs, Option.isSome_map]
    exact (pulseUnit_isSome_iff suffix).2 hs
  have hneg : pulseNegative (ascii "-" ++ d ++ suffix) = true := by
    rw [List.append_assoc]
    exact hg
  rw [pulseParse, if_pos hneg]

/-- PULSE_PARSE on an argument of the grammar: the range is all that is left to test. -/
theorem pulseParse_append {d suffix : Text} {u : PulseUnit} (hd : DigitString d)
    (hs : suffix ∈ pulseSuffixes)
    (hu : pulseUnit suffix = some u) :
    pulseParse (d ++ suffix) =
      if 255 < pulseTicks (positionalValue d) u then .usage .range
      else .ok (BitVec.ofNat 8 (pulseTicks (positionalValue d) u)) := by
  rw [pulseParse, pulseNegative_append hd, pulseGrammar_append hd hs, hu]
  rfl

theorem pulseParse_outside {a : Text} (hn : pulseNegative a ≠ true)
    (hg : ¬ (pulseGrammar a).isSome = true) : pulseParse a = .usage .parse := by
  rw [pulseParse, if_neg hn, Option.not_isSome_iff_eq_none.1 hg]

/-- "?" is neither a digit nor a minus sign, so no argument of the grammar is the help request. -/
theorem DigitString.append_ne_help {d : Text} (hd : DigitString d) (suffix : Text) :
    d ++ suffix ≠ helpArg ∧ ascii "-" ++ d ++ suffix ≠ helpArg := by
  obtain ⟨hne, hdig⟩ := hd
  have hhelp : helpArg = [0x3F] := by decide
  have hminus : ascii "-" = [0x2D] := by decide
  rw [hhelp, hminus]
  constructor
  · cases d with
    | nil => exact absurd rfl hne
    | cons b d =>
      intro h
      obtain rfl : b = 0x3F := by simpa using congrArg List.head? h
      simpa using (hdig _ List.mem_cons_self).2
  · simp

/-- Settles O51: `pulseParse_append` at the unit of each suffix, and `pulseParse_negative`. -/
theorem pulseArgumentIsPlanned : Obligations.PulseArgumentIsPlanned := by
  unfold Obligations.PulseArgumentIsPlanned
  intro c d x hd hx
  obtain ⟨u, hs, hu, hv⟩ : ∃ u, x.1 ∈ pulseSuffixes ∧
      pulseUnit x.1 = some u ∧ x.2 = pulseTicks (positionalValue d) u := by
    simp only [List.mem_cons, List.not_mem_nil, or_false] at hx
    rcases hx with rfl | rfl | rfl | rfl
    · exact ⟨.ticks, by simp [pulseSuffixes], rfl, rfl⟩
    · exact ⟨.ms, by simp [pulseSuffixes], rfl, rfl⟩
    · exact ⟨.seconds, by simp [pulseSuffixes], rfl, rfl⟩
    · exact ⟨.seconds, by simp [pulseSuffixes], rfl, rfl⟩
  obtain ⟨hhelp, hhelp'⟩ := hd.append_ne_help x.1
  rw [plan_set rfl hhelp, plan_set rfl hhelp']
  have hparse := pulseParse_append hd hs hu
  rw [← hv] at hparse
  refine ⟨fun hr => ?_, fun v hval => ?_, planParsed_of_usage (pulseParse_negative hd hs) _⟩
  · exact planParsed_of_usage (hparse.trans (if_pos hr)) _
  · have hle : ¬ 255 < x.2 := by have := v.isLt; omega
    have hok : pulseParse (d ++ x.1) = .ok v := by
      rw [hparse, if_neg hle, hval, BitVec.ofNat_toNat, BitVec.setWidth_eq]
    exact planParsed_of_ok hok _

/-- Settles O52: what PULSE_PARSE reads, negative or not, is of the grammar. -/
theorem pulseArgumentOutsideGrammar : Obligations.PulseArgumentOutsideGrammar := by
  unfold Obligations.PulseArgumentOutsideGrammar
  intro c a ha hout
  have hneg : pulseNegative a ≠ true := fun h => by
    obtain ⟨d, suffix, hd, hs, rfl⟩ := exists_append_of_pulseNegative h
    exact (hout d suffix hd hs).2 rfl
  have hgram : ¬ (pulseGrammar a).isSome = true := fun h => by
    obtain ⟨d, suffix, hd, hs, rfl⟩ := exists_append_of_pulseGrammar h
    exact (hout d suffix hd hs).1 rfl
  rw [plan_set rfl ha, planParsed_of_usage (pulseParse_outside hneg hgram)]

end Sys2Proof.Machine
end

section
/-! The decimal spelling (42_status_switches.md R85) and SEC2 (46_counters_pulse.md R127). -/

namespace Sys2Proof.Machine

theorem dec_of_lt_ten {n : Nat} (h : n < 10) : dec n = [digitByte n] := by
  rw [dec_step, if_pos (by omega), Nat.mod_eq_of_lt h]

theorem dec_of_ten_le {n : Nat} (h : 10 ≤ n) : dec n = dec (n / 10) ++ [digitByte (n % 10)] := by
  rw [dec_step, if_neg (by omega)]

/-- A property of every decimal spelling, from the one digit and from one digit more. -/
theorem dec_induction {P : Nat → Prop} (digit : ∀ n < 10, P n)
    (more : ∀ n, 10 ≤ n → P (n / 10) → P n) (n : Nat) : P n := by
  induction n using Nat.strong_induction_on with
  | _ n ih =>
    rcases Nat.lt_or_ge n 10 with h | h
    · exact digit n h
    · exact more n h (ih (n / 10) (by omega))

theorem DigitString.singleton {d : Nat} (h : d < 10) : DigitString [digitByte d] := by
  have := digitByte_toNat h
  refine ⟨by simp, fun b hb => ?_⟩
  rw [List.mem_singleton.1 hb]
  omega

theorem DigitString.append {a b : Text} (ha : DigitString a) (hb : DigitString b) :
    DigitString (a ++ b) := by
  refine ⟨by simp [ha.1], fun x hx => ?_⟩
  rcases List.mem_append.1 hx with hx | hx
  · exact ha.2 x hx
  · exact hb.2 x hx

theorem digitString_dec (n : Nat) : DigitString (dec n) := by
  induction n using dec_induction with
  | digit n h => rw [dec_of_lt_ten h]; exact .singleton h
  | more n h ih => rw [dec_of_ten_le h]; exact ih.append (.singleton (by omega))

theorem positionalValue_dec (n : Nat) : positionalValue (dec n) = n := by
  induction n using dec_induction with
  | digit n h => rw [dec_of_lt_ten h, positionalValue_digit h]
  | more n h ih =>
    rw [dec_of_ten_le h, positionalValue_append, ih, positionalValue_digit (by omega)]
    simp
    omega

/-- Only the spelling of 0 begins with the digit 0. -/
theorem eq_zero_of_dec_head? {n : Nat} (h : (dec n).head? = some 0x30) : n = 0 := by
  induction n using dec_induction with
  | digit n hn =>
    rw [dec_of_lt_ten hn] at h
    have hd := digitByte_toNat hn
    rw [Option.some.inj h] at hd
    simpa using hd.symm
  | more n hn ih =>
    rw [dec_of_ten_le hn, List.head?_append_of_ne_nil _ (digitString_dec _).1] at h
    have := ih h
    omega

/-- Settles O44: each fact by induction on the number of digits. -/
theorem decimalSpellingIsExact : Obligations.DecimalSpellingIsExact := by
  unfold Obligations.DecimalSpellingIsExact
  refine fun n => ⟨digitString_dec n, positionalValue_dec n, fun h => ?_⟩
  obtain rfl := eq_zero_of_dec_head? h
  exact ⟨rfl, rfl⟩

/-- Below 100, `pad2` is the tens digit and the units digit. -/
theorem pad2_eq {k : Nat} (h : k < 100) : pad2 k = [digitByte (k / 10), digitByte (k % 10)] := by
  unfold pad2
  split
  · next hk =>
    rw [dec_of_lt_ten hk, Nat.div_eq_of_lt hk, Nat.mod_eq_of_lt hk]
    rfl
  · next hk =>
    rw [dec_of_ten_le (by omega), dec_of_lt_ten (by omega)]
    rfl

theorem digitString_pad2 {k : Nat} (h : k < 100) : DigitString (pad2 k) := by
  rw [pad2_eq h]
  exact (DigitString.singleton (d := k / 10) (by omega)).append
    (DigitString.singleton (d := k % 10) (by omega))

theorem positionalValue_pad2 {k : Nat} (h : k < 100) : positionalValue (pad2 k) = k := by
  have := positionalValue_append [digitByte (k / 10)] [digitByte (k % 10)]
  rw [positionalValue_digit (by omega), positionalValue_digit (by omega)] at this
  rw [pad2_eq h]
  simp only [List.singleton_append, List.length_singleton, pow_one] at this
  omega

/-- Settles O43: the whole part spells n div 20, the two digits 5 (n mod 20) hundredths. -/
theorem pulseSecondsAreExact : Obligations.PulseSecondsAreExact := by
  unfold Obligations.PulseSecondsAreExact
  intro n
  have hk : 5 * (n % 20) < 100 := by omega
  refine ⟨dec (n / 20), pad2 (5 * (n % 20)), rfl, digitString_dec _, digitString_pad2 hk, ?_, ?_⟩
  · rw [pad2_eq hk]
    rfl
  · rw [positionalValue_dec, positionalValue_pad2 hk]
    omega

end Sys2Proof.Machine
end

section
/-! What PLAN can build (30_encoding.md R56): each instruction's offer plans it, and only a well-formed
instruction is planned. -/

namespace Sys2Proof.Machine

/-! ### Spelling an operand -/

theorem timerParse_spellTimer (t : BitVec 16) : timerParse (spellTimer t) = .ok t :=
  timerParse_ok (digitString_dec _) (positionalValue_dec _)

theorem pulseParse_spellPulse (v : Byte) : pulseParse (spellPulse v) = .ok v := by
  have hle : ¬ 255 < v.toNat := by have := v.isLt; omega
  have h := pulseParse_append (d := dec v.toNat) (suffix := []) (u := .ticks) (digitString_dec _)
    (by simp [pulseSuffixes]) rfl
  rw [positionalValue_dec, List.append_nil] at h
  rw [spellPulse, h]
  simp [pulseTicks, hle]

theorem dec_ne_help (n : Nat) : dec n ≠ helpArg := by
  simpa using ((digitString_dec n).append_ne_help []).1

/-- The sixteen relay values and their spellings. -/
theorem relayEncode_spellRelay (v : Byte) (h : v &&& relayUnused = 0) :
    relayEncode (spellRelay v) = v ∧ spellRelay v ≠ helpArg := by
  revert v
  decide

/-- The thirty-two buzzer values and their spellings. -/
theorem buzzerEncode_spellBuzzer (v : Byte) (h : v &&& buzzerUnused = 0) :
    buzzerEncode (spellBuzzer v) = v ∧ spellBuzzer v ≠ helpArg := by
  revert v
  decide

/-! ### Both directions of R56 -/

theorem planParsed_tx {α : Type} {parse : Text → Parsed α} {command : α → Instr} {a : Text} {i : Instr}
    (h : planParsed parse command a = .tx i) : ∃ x, i = command x := by
  unfold planParsed at h
  split at h
  · cases h
  · cases h
    exact ⟨_, rfl⟩

theorem wf_queryOf (act : Action) : (queryOf act).wf = true := by cases act <;> rfl

/-- A set arm builds no relay or buzzer value with a bit no token sets; every other operand is
well-formed. -/
theorem wf_of_setArm {c : Config} {act : Action} {f : Text → Planned} {a : Text} {i : Instr}
    (hf : setArmOf c act = some f) (h : f a = .tx i) : i.wf = true := by
  cases act <;> simp only [setArmOf, Option.some.injEq, reduceCtorEq] at hf <;> subst hf
  case relay =>
    cases h
    have hunused : relayUnused = 0x78 := by decide
    simpa [Instr.wf, hunused] using relayEncode_unused a
  case buzzer =>
    cases h
    have hunused : buzzerUnused = 0x70 := by decide
    simpa [Instr.wf, hunused] using buzzerEncode_unused a
  all_goals
    obtain ⟨x, rfl⟩ := planParsed_tx h
    rfl

theorem wf_of_plan {c : Config} {act : Action} {arg : Option Text} {i : Instr}
    (h : plan c act arg = .tx i) : i.wf = true := by
  cases arg with
  | none =>
    rw [plan_none] at h
    cases h
    exact wf_queryOf act
  | some a =>
    by_cases ha : a = helpArg
    · rw [ha, plan_help] at h
      cases h
    · cases hf : setArmOf c act with
      | none => rw [plan_noSet hf ha] at h; cases h
      | some f => rw [plan_set hf ha] at h; exact wf_of_setArm hf h

/-- Each well-formed instruction is planned by its own offer: a query by no argument, a set by the
spelling of its operand. -/
theorem plan_offerOf (c : Config) (i : Instr) (h : i.wf = true) :
    plan c (offerOf i).act (offerOf i).arg = .tx i := by
  have hzero : ascii "0" ≠ helpArg := by decide
  cases i
  case armS t | sarmS t | alarmS t | salarmS t =>
    exact (plan_set rfl (dec_ne_help _)).trans (planParsed_of_ok (timerParse_spellTimer t) _)
  case trigClr | countClr =>
    exact (plan_set rfl hzero).trans (planParsed_of_ok (counterClearParse_zero c) _)
  case relayS v =>
    obtain ⟨henc, hne⟩ := relayEncode_spellRelay v (by simpa [Instr.wf] using h)
    exact (plan_set (act := .relay) rfl hne).trans (by rw [henc])
  case buzzerS v =>
    obtain ⟨henc, hne⟩ := buzzerEncode_spellBuzzer v (by simpa [Instr.wf] using h)
    exact (plan_set (act := .buzzer) rfl hne).trans (by rw [henc])
  case pulseS v =>
    exact (plan_set rfl (dec_ne_help _)).trans (planParsed_of_ok (pulseParse_spellPulse v) _)
  all_goals rfl

/-- Settles O20: `plan_offerOf` one way, `wf_of_plan` the other. -/
theorem plannedExactlyWhenWellFormed : Obligations.PlannedExactlyWhenWellFormed := by
  unfold Obligations.PlannedExactlyWhenWellFormed
  intro c i
  exact ⟨fun h => ⟨_, _, plan_offerOf c i h⟩, fun ⟨_, _, h⟩ => wf_of_plan h⟩

end Sys2Proof.Machine
end

section
/-! Decoding a request (30_encoding.md R47, R53) and encoding it (R48 to R51): the two are inverse on the
rows of the table, and what a packet that decodes to a command holds. -/

namespace Sys2Proof

/-! ### The codec's round trip -/

/-- Settles O10: DECODE reads back the three operands, and ENCODE puts zeros where DECODE discards. -/
theorem codecRoundTrip : Obligations.CodecRoundTrip := by
  unfold Obligations.CodecRoundTrip
  refine ⟨fun opc f1 f2 => ?_, fun p => ?_⟩
  · rw [encodePacket_eq, decodeFields_eq]
  · rw [encodePacket_eq, decodeFields_eq]
    constructor
    · intro h
      rw [← h]
      exact ⟨rfl, rfl, rfl⟩
    · obtain ⟨p0, p1, p2, p3, p4, p5⟩ := p
      rintro ⟨rfl, rfl, rfl⟩
      rfl

/-- Settles O11: seven closed words. -/
theorem tableWordsDecode : Obligations.TableWordsDecode := by
  unfold Obligations.TableWordsDecode
  decide

/-! ### Encoding, then decoding -/

/-- Every instruction but the two of opcode 0x30 stands in a row with its opcode, and the row reads the
encoder's packet back as that instruction. -/
theorem exists_requestRow (c : Config) {i : Instr} (he : i ≠ .enable) (hd : i ≠ .disable) :
    ∃ f, (opcodeOf c i, f) ∈ requestRows c ∧ f (encode c i) = i := by
  cases i with
  | ping => exact ⟨_, List.mem_of_getElem? (i := 0) rfl, rfl⟩
  | temp => exact ⟨_, List.mem_of_getElem? (i := 1) rfl, rfl⟩
  | status => exact ⟨_, List.mem_of_getElem? (i := 2) rfl, rfl⟩
  | switches => exact ⟨_, List.mem_of_getElem? (i := 3) rfl, rfl⟩
  | version => exact ⟨_, List.mem_of_getElem? (i := 4) rfl, rfl⟩
  | armQ => exact ⟨_, List.mem_of_getElem? (i := 5) rfl, rfl⟩
  | armS t => exact ⟨_, List.mem_of_getElem? (i := 6) rfl, congrArg Instr.armS (be16_hi8_lo8 t)⟩
  | sarmQ => exact ⟨_, List.mem_of_getElem? (i := 7) rfl, rfl⟩
  | sarmS t => exact ⟨_, List.mem_of_getElem? (i := 8) rfl, congrArg Instr.sarmS (be16_hi8_lo8 t)⟩
  | alarmQ => exact ⟨_, List.mem_of_getElem? (i := 9) rfl, rfl⟩
  | alarmS t => exact ⟨_, List.mem_of_getElem? (i := 10) rfl, congrArg Instr.alarmS (be16_hi8_lo8 t)⟩
  | salarmQ => exact ⟨_, List.mem_of_getElem? (i := 11) rfl, rfl⟩
  | salarmS t =>
    exact ⟨_, List.mem_of_getElem? (i := 12) rfl, congrArg Instr.salarmS (be16_hi8_lo8 t)⟩
  | trigQ => exact ⟨_, List.mem_of_getElem? (i := 13) rfl, rfl⟩
  | trigClr => exact ⟨_, List.mem_of_getElem? (i := 14) rfl, rfl⟩
  | enable => exact absurd rfl he
  | disable => exact absurd rfl hd
  | relayQ => exact ⟨_, List.mem_of_getElem? (i := 15) rfl, rfl⟩
  | relayS v => exact ⟨_, List.mem_of_getElem? (i := 16) rfl, rfl⟩
  | buzzerQ => exact ⟨_, List.mem_of_getElem? (i := 17) rfl, rfl⟩
  | buzzerS v => exact ⟨_, List.mem_of_getElem? (i := 18) rfl, rfl⟩
  | countQ => exact ⟨_, List.mem_of_getElem? (i := 19) rfl, rfl⟩
  | countClr => exact ⟨_, List.mem_of_getElem? (i := 20) rfl, rfl⟩
  | pulseQ => exact ⟨_, List.mem_of_getElem? (i := 21) rfl, rfl⟩
  | pulseS v => exact ⟨_, List.mem_of_getElem? (i := 22) rfl, rfl⟩
  | reset => exact ⟨_, List.mem_of_getElem? (i := 23) rfl, rfl⟩

theorem encode_p0_reserved (c : Config) (i : Instr) :
    (encode c i).p0 = opcodeOf c i ∧ (encode c i).p3 = 0 ∧ (encode c i).p4 = 0 ∧
      (encode c i).p5 = 0 := by
  rw [← Machine.encodePacket_requestOf]
  exact ⟨Machine.requestOf_opc c i, rfl, rfl, rfl⟩

/-- The two magic packets decode by R53 step 3, before any row is looked at. -/
theorem decode_encode_magic (c : Config) :
    decode c (encode c .enable).bytes = .instr .enable ∧
    decode c (encode c .disable).bytes = .instr .disable := by
  constructor
  · show decodePacket c (packet16 lit.opcWdctl lit.magicEnable) = _
    simp [decodePacket, decodeOpcode, packet16, be16_hi8_lo8]
  · have hne : lit.magicDisable ≠ lit.magicEnable := by decide
    show decodePacket c (packet16 lit.opcWdctl lit.magicDisable) = _
    simp [decodePacket, decodeOpcode, packet16, be16_hi8_lo8, hne]

/-- No operand value is excluded: well-formedness plays no part here. -/
theorem decode_encode {c : Config} (hc : c.wellFormed = true) (i : Instr) :
    decode c (encode c i).bytes = .instr i := by
  by_cases he : i = .enable
  · rw [he, (decode_encode_magic c).1]
  by_cases hd : i = .disable
  · rw [hd, (decode_encode_magic c).2]
  obtain ⟨f, hmem, hf⟩ := exists_requestRow c he hd
  obtain ⟨hp0, hzero⟩ := encode_p0_reserved c i
  rw [← hp0] at hmem
  rw [decode_of_row hc hmem hzero, hf]

/-- Settles O12: the row of the instruction, or the magic value of opcode 0x30. -/
theorem decodeOfEncodeIsIdentity : Obligations.DecodeOfEncodeIsIdentity := by
  unfold Obligations.DecodeOfEncodeIsIdentity
  exact fun c i hc _ => decode_encode hc i

/-! ### What a packet that decodes to a command holds -/

/-- The operands of an instruction, where it has one, are payload bytes: a timer value bytes 1 and 2, a
value byte byte 2 (20_memory.md R35). -/
def OperandsFrom (i : Instr) (p1 p2 : Byte) : Prop :=
  (∀ t, i = .armS t ∨ i = .sarmS t ∨ i = .alarmS t ∨ i = .salarmS t → t = be16 p1 p2) ∧
  (∀ v, i = .relayS v ∨ i = .buzzerS v ∨ i = .pulseS v → v = p2)

/-- What each row reads: an instruction of the row's opcode, none of opcode 0x30's two, with the operands
of the packet. -/
theorem requestRows_read (c : Config) (p : Packet) :
    ∀ r ∈ requestRows c, opcodeOf c (r.2 p) = r.1 ∧ r.2 p ≠ .enable ∧ r.2 p ≠ .disable ∧
      OperandsFrom (r.2 p) p.p1 p.p2 := by
  simp [requestRows, opcodeOf, OperandsFrom]

/-- What decodeOpcode reads: a magic value under opcode 0x30, and otherwise the operands of a row. -/
theorem decodeOpcode_instr {c : Config} {p : Packet} {i : Instr} (h : decodeOpcode c p = .instr i) :
    p.p0 = opcodeOf c i ∧ (i = .enable → be16 p.p1 p.p2 = 0x5A3C) ∧
      (i = .disable → be16 p.p1 p.p2 = 0xA5C3) ∧ OperandsFrom i p.p1 p.p2 ∧
      (p.p0 = 0x30 → i = .enable ∨ i = .disable) := by
  unfold decodeOpcode at h
  split at h
  next hwdctl =>
    split at h
    · next hmagic => cases h; simp [hwdctl, hmagic, opcodeOf, OperandsFrom, lit]
    · split at h
      · next hmagic => cases h; simp [hwdctl, hmagic, opcodeOf, OperandsFrom, lit]
      · cases h
  next hwdctl =>
    split at h
    · next r hr =>
      cases h
      obtain ⟨hopc, hne, hnd, hops⟩ := requestRows_read c p r (List.mem_of_find?_eq_some hr)
      have hp0 : r.1 = p.p0 := by simpa using List.find?_some hr
      exact ⟨(hopc.trans hp0).symm, fun he => absurd he hne, fun hd => absurd hd hnd, hops,
        fun h30 => absurd h30 hwdctl⟩
    · cases h

/-- A sequence that decodes to an instruction is a packet whose reserved bytes are zero. -/
theorem decode_instr {c : Config} {b : List Byte} {i : Instr} (h : decode c b = .instr i) :
    ∃ p : Packet, b = [p.p0, p.p1, p.p2, 0, 0, 0] ∧ decodeOpcode c p = .instr i := by
  unfold decode at h
  split at h
  next p0 p1 p2 p3 p4 p5 =>
    unfold decodePacket at h
    split at h
    · cases h
    · next j hj =>
      split at h
      · next hzero =>
        cases h
        obtain ⟨h3, h4, h5⟩ := hzero
        refine ⟨_, ?_, hj⟩
        simp only at h3 h4 h5
        rw [h3, h4, h5]
      · cases h
  next => cases h

theorem be16_inj {h l h' l' : Byte} (e : be16 h l = be16 h' l') : h = h' ∧ l = l' := by
  unfold be16 at e
  constructor
  · rw [← hi8_append h l, e, hi8_append]
  · rw [← lo8_append h l, e, lo8_append]

/-- Settles O13: `decode_instr`, and the payload by `decodeOpcode_instr`. -/
theorem decodedCommandHasItsOpcode : Obligations.DecodedCommandHasItsOpcode := by
  unfold Obligations.DecodedCommandHasItsOpcode
  intro c b i h
  obtain ⟨p, hb, hop⟩ := decode_instr h
  obtain ⟨hopc, henable, hdisable, ⟨htimer, hbyte⟩, -⟩ := decodeOpcode_instr hop
  refine ⟨p.p1, p.p2, hopc ▸ hb, fun he => be16_inj (henable he), fun hd => be16_inj (hdisable hd),
    fun t ht => ?_, hbyte⟩
  rw [htimer t ht, be16_toNat]

/-- Settles O14: a sequence that decodes to an instruction has none of the four forms. -/
theorem packetsThatSpellNoCommand : Obligations.PacketsThatSpellNoCommand := by
  unfold Obligations.PacketsThatSpellNoCommand
  intro c b hform
  cases h : decode c b with
  | noCommand r => exact ⟨r, rfl⟩
  | instr i =>
    exfalso
    obtain ⟨p, rfl, hop⟩ := decode_instr h
    obtain ⟨hopc, henable, hdisable, -, hwdctl⟩ := decodeOpcode_instr hop
    rcases hform with hlen | ⟨k, hk3, hk6, hk⟩ | ⟨h30, hne, hnd⟩ | hrow
    · exact hlen rfl
    · obtain rfl | rfl | rfl : k = 3 ∨ k = 4 ∨ k = 5 := by omega
      all_goals exact hk rfl
    · rcases hwdctl (Option.some.inj h30) with he | hd
      · exact hne (henable he)
      · exact hnd (hdisable hd)
    · exact hrow i (congrArg some hopc)

end Sys2Proof
end

section
/-! What ends a step before any command runs (00_scope.md R10, 10_state.md R15, 41_exchange.md R75,
70_reset_and_hazards.md R159), and how a step reaches a command's meaning. -/

namespace Sys2Proof.Machine

/-! ### The register view -/

/-- The value of two words side by side, the first above. -/
theorem append_toNat {n m : Nat} (x : BitVec n) (y : BitVec m) :
    (x ++ y).toNat = x.toNat * 2 ^ m + y.toNat := by
  rw [BitVec.toNat_append, ← Nat.shiftLeft_add_eq_or_of_lt y.isLt, Nat.shiftLeft_eq]

/-- Settles O8: the five fields side by side, the top one zero. -/
theorem statPacksRegisters : Obligations.StatPacksRegisters := by
  unfold Obligations.StatPacksRegisters
  intro s
  simp only [State.stat, append_toNat]
  simp
  omega

/-! ### The configuration check -/

theorem wellFormed_conditions {c : Config} (h : c.wellFormed = true) :
    c.opcodes.Nodup ∧ (∀ o ∈ c.opcodes, o ∉ ([0x04, 0x10, 0x11, 0x30] : List Byte)) ∧
      (c.tempByte = 1 ∨ c.tempByte = 2) := by
  simp only [Config.wellFormed, Bool.and_eq_true, Bool.or_eq_true, beq_iff_eq, List.all_eq_true] at h
  obtain ⟨⟨⟨hdistinct, hfixed⟩, -⟩, htemp⟩ := h
  refine ⟨pairwiseDistinct_nodup hdistinct, fun o ho => ?_, htemp⟩
  simpa [fixedOpcodes, lit] using hfixed o ho

theorem step_of_illFormed {s : State} (h : s.config.wellFormed ≠ true) :
    step s = .refused .illFormedConfig := by
  rw [step, nextStep, if_neg h]

/-- Settles O6: each condition is one an admitted configuration does not meet. -/
theorem illFormedConfigIsRefused : Obligations.IllFormedConfigIsRefused := by
  unfold Obligations.IllFormedConfigIsRefused
  intro s hbreaks
  refine step_of_illFormed fun hwf => ?_
  obtain ⟨hnodup, hfixed, htemp⟩ := wellFormed_conditions hwf
  rcases hbreaks with hdup | ⟨o, ho, hmem⟩ | ⟨h1, h2⟩
  · exact hdup hnodup
  · exact hfixed o ho hmem
  · exact htemp.elim h1 h2

/-! ### Reset and the never-written encodings -/

theorem step_of_reset {s : State} {r : ResetInput} (hc : s.config.wellFormed = true)
    (h : s.resetAsserted = some r) : step s = .next (s.noReset.hostReset r) := by
  rw [step, nextStep, if_pos hc, h]

theorem hostReset_registersReset (s : State) (r : ResetInput) :
    (s.hostReset r).RegistersReset (r.cfg.getD 0) :=
  ⟨rfl, rfl, rfl, rfl, rfl, rfl, rfl, rfl, rfl, rfl⟩

/-- Settles O3: the step is `hostReset`, which keeps the fields that are no registers. -/
theorem resetAssertedReinitialises : Obligations.ResetAssertedReinitialises := by
  unfold Obligations.ResetAssertedReinitialises
  intro s r later hc hrst
  have hr : s.resetAsserted = some r := by rw [State.resetAsserted, hrst]; rfl
  refine ⟨_, step_of_reset hc hr, hostReset_registersReset _ r, by simp, by simp, by simp, by simp,
    by simp [hrst], ?_⟩
  rw [State.hostReset_ports, State.abandon_ports]
  rfl

theorem step_of_neverWritten {s : State} {f : Fault} (hc : s.config.wellFormed = true)
    (hr : s.resetAsserted = none) (h : s.neverWritten = some f) : step s = .fault f := by
  rw [step, nextStep, if_pos hc, hr, h]

/-- A never-written encoding has one of four names. -/
theorem neverWritten_cases {s : State} {f : Fault} (h : s.neverWritten = some f) :
    f = .badState ∨ f = .badAct ∨ f = .badResult ∨ f = .badFcause := by
  unfold State.neverWritten at h
  split_ifs at h <;> cases h <;> simp

/-- Settles O7: a code past a register's last is never-written, and the step faults by its name. -/
theorem neverWrittenEncodingFaults : Obligations.NeverWrittenEncodingFaults := by
  unfold Obligations.NeverWrittenEncodingFaults
  intro s hc hr hpast
  cases h : s.neverWritten with
  | none => have := (State.neverWritten_eq_none_iff s).1 h; omega
  | some f => exact ⟨f, step_of_neverWritten hc hr h, neverWritten_cases h⟩

/-! ### Reaching a command -/

/-- Settles O60: in IDLE with nothing offered the sequencer waits. -/
theorem idleWaitsForAnOffer : Obligations.IdleWaitsForAnOffer := by
  unfold Obligations.IdleWaitsForAnOffer
  intro s hlive h0 hcmd
  have hnext : nextStep s = .other (.next s.noReset) := by
    simp [nextStep_of_live hlive, proceed, Phase.ofCode, h0, hcmd]
  rw [step, hnext]
  rfl

/-- In IDLE a planned offer runs: ACCEPT is the meaning of its command there. -/
theorem step_eq_exec_of_planned {s : State} {o : Offer} {rest : List Offer} {i : Instr}
    (h : s.Live) (h0 : s.state = 0) (hcmd : s.cmd = o :: rest)
    (hp : plan s.config o.act o.arg = .tx i) : step s = exec i (s.noReset.takeOffer o rest) := by
  rw [step_of_planned h h0 hcmd hp, exec_eq_runCommand,
    runCommand_idle _ _ (s.noReset.takeOffer o rest) h0]
  rfl

/-- Settles O17: `step_eq_exec_of_planned`, with the state it runs at written out. -/
theorem stepRunsOfferedCommand : Obligations.StepRunsOfferedCommand := by
  unfold Obligations.StepRunsOfferedCommand
  exact fun s o rest i hlive h0 hcmd hp => step_eq_exec_of_planned hlive h0 hcmd hp

theorem step_of_inFlight {s : State} {i : Instr} (h : s.Live)
    (hs : s.state = 1 ∨ s.state = 2 ∨ s.state = 3) (hi : s.inFlight = some i) :
    step s = exec i s.noReset := by
  rw [step, nextStep_of_inFlight h hs hi]

/-- Settles O18: `step_of_inFlight`, with the state it runs at written out. -/
theorem stepRunsCommandInFlight : Obligations.StepRunsCommandInFlight := by
  unfold Obligations.StepRunsCommandInFlight
  exact fun s i hlive hs hi => step_of_inFlight hlive hs hi

theorem decodeWordWith_of_decode {c : Config} {w : Nat} {i : Instr}
    (h : decode c (packetOfWord w).bytes = .instr i) : decodeWordWith c 48 w = some i := by
  simp [decodeWordWith, packetOfTableWord, h]

theorem withFetchWord_of_decode {s : State} {w : Nat} {i : Instr}
    (h : decode s.config (packetOfWord w).bytes = .instr i) (hwf : i.wf = true) :
    s.withFetchWord 48 w =
      { s with state := 0, cmd := offerOf i :: s.cmd, rst := none :: s.rst } := by
  rw [State.withFetchWord, decodeWordWith_of_decode h]
  simp only [State.withInstr, if_pos hwf]
  rfl

/-- Settles O19: the word places the offer that plans its instruction, and the next step takes it. -/
theorem stepRunsDecodedWord : Obligations.StepRunsDecodedWord := by
  unfold Obligations.StepRunsDecodedWord
  intro s w i hc henc hdec hwf
  rw [withFetchWord_of_decode hdec hwf]
  exact step_eq_exec_of_planned ⟨hc, rfl, henc⟩ rfl rfl (plan_offerOf _ i hwf)

/-! ### FATAL -/

theorem step_of_fatal {s : State} (h : s.Live) (h4 : s.state = 4) : step s = .fault .fatalHold := by
  have hnext : nextStep s = .other (.fault .fatalHold) := by
    simp [nextStep_of_live h, proceed, Phase.ofCode, h4]
  rw [step, hnext]

theorem exec_of_fatal (i : Instr) {s : State} (h4 : s.state = 4) : exec i s = .fault .fatalHold := by
  rw [exec_eq_runCommand, runCommand_fatal _ _ _ h4]

end Sys2Proof.Machine
end

section
/-! Every way a step can go on (41_exchange.md R77), each with the exact state it leaves, and the
obligations that follow case by case. -/

namespace Sys2Proof.Machine

/-- The state in WRITE once ChanWrite has answered, before STATE moves on. -/
def State.wrote (s : State) (a : WriteAnswer) (rest : List WriteAnswer) : State :=
  { s.noReset with chw := rest }.post (.chanWrite s.txbuf a.result (a.delivered s.txbuf))

/-- The state in READ once ChanRead has answered, before the reply is stored. -/
def State.didRead (s : State) (r : ReadAnswer) (rest : List ReadAnswer) : State :=
  { s.noReset with chr := rest }.post (.chanRead 6 r)

/-- The state in CHECK with its outcome written and its records posted. -/
def State.checked (s : State) (code : BitVec 4) (posted : List PortEvent) : State :=
  { s.noReset with result := code, state := 0, ports := s.ports ++ posted }

/-- The rows of the transition table, one constructor for each way a step can go on. -/
inductive StepTo (s : State) : State → Prop
  | reset (r : ResetInput) (hr : s.resetAsserted = some r) : StepTo s (s.noReset.hostReset r)
  | wait (h0 : s.state = 0) : StepTo s s.noReset
  | usage (o : Offer) (rest : List Offer) (u : Usage) (h0 : s.state = 0) (hcmd : s.cmd = o :: rest) :
      StepTo s ((s.noReset.takeOffer o rest).raise (.usage o.act u))
  | accept (o : Offer) (rest : List Offer) (i : Instr) (h0 : s.state = 0) (hcmd : s.cmd = o :: rest)
      (hp : plan s.config o.act o.arg = .tx i) :
      StepTo s ((s.noReset.takeOffer o rest).accept (requestOf s.config i))
  | writeDone (a : WriteAnswer) (rest : List WriteAnswer) (h1 : s.state = 1) :
      StepTo s { s.wrote a rest with state := 2 }
  | writeFatal (a : WriteAnswer) (rest : List WriteAnswer) (c : FatalCause) (h1 : s.state = 1) :
      StepTo s ((s.wrote a rest).raise (.fatal c))
  | readDone (b : List Byte) (rest : List ReadAnswer) (h2 : s.state = 2) (hb : b.length ≤ 6)
      (hfull : s.cfg.getLsbD 1 = true → b.length = 6) :
      StepTo s { (s.didRead (.ok b) rest).received b with state := 3 }
  | readShort (b : List Byte) (rest : List ReadAnswer) (h2 : s.state = 2) (hb : b.length < 6) :
      StepTo s (((s.didRead (.ok b) rest).received b).raise (.fatal .readShort))
  | readErr (rest : List ReadAnswer) (h2 : s.state = 2) :
      StepTo s ((s.didRead .err rest).raise (.fatal .readErr))
  | checkValid (r : ResRecord) (h3 : s.state = 3) : StepTo s (s.checked 1 [.res r])
  | checkInvalid (code : ResultCode) (r : ResRecord) (warns : List DiagRecord) (h3 : s.state = 3)
      (hcode : code = .invalidShort ∨ code = .invalidMismatch) :
      StepTo s (s.checked code.code (.res r :: warns.map .diag))

theorem atMostSix_ok {a : ReadAnswer} {b : List Byte} (h : a.atMostSix = .ok b) : b.length ≤ 6 := by
  cases a with
  | err => cases h
  | ok b' =>
    cases h
    exact List.length_take_le 6 b'

/-- What the WRITE step leaves, by the channel's answer. -/
theorem stepTo_of_write {s t : State} (h1 : s.state = 1) (h : writeStep s.noReset = .next t) :
    StepTo s t := by
  obtain ⟨a, rest, -, rfl⟩ := writeStep_next h
  change StepTo s ((s.wrote a rest).afterWrite a.result)
  obtain ⟨-, hw⟩ | ⟨c, -, -, hw⟩ | ⟨-, hw⟩ := (s.wrote a rest).afterWrite_cases a.result <;> rw [hw]
  · exact .writeDone a rest h1
  · exact .writeFatal a rest .writeShort h1
  · exact .writeFatal a rest .writeErr h1

/-- What the READ step leaves, by the channel's answer. -/
theorem stepTo_of_read {s t : State} (h2 : s.state = 2) (h : readStep s.noReset = .next t) :
    StepTo s t := by
  obtain ⟨a, rest, -, rfl⟩ := readStep_next h
  change StepTo s ((s.didRead a.atMostSix rest).afterRead a.atMostSix)
  obtain ⟨ha, hr⟩ | ⟨b, ha, hb, -, hr⟩ | ⟨b, ha, hfull, hr⟩ :=
    (s.didRead a.atMostSix rest).afterRead_cases a.atMostSix <;> rw [hr, ha]
  · exact .readErr rest h2
  · exact .readShort b rest h2 hb
  · have hle := atMostSix_ok ha
    refine .readDone b rest h2 hle fun hcfg => ?_
    by_contra hne
    exact hfull ⟨by omega, hcfg⟩

theorem invalidCode_cases (s : State) :
    s.invalidCode = .invalidShort ∨ s.invalidCode = .invalidMismatch := by
  unfold State.invalidCode
  split
  · exact .inl rfl
  · exact .inr rfl

/-- What the CHECK step leaves, by the reply's validity. -/
theorem stepTo_of_check {s : State} (h3 : s.state = 3) (post : Config → Packet → Posted) :
    StepTo s (s.noReset.check post) := by
  cases hv : s.noReset.replyValid with
  | true =>
    rw [State.check_valid post _ hv]
    exact .checkValid _ h3
  | false =>
    rw [State.check_invalid post _ hv, List.append_assoc]
    have hcode := invalidCode_cases s.noReset
    cases hw : s.noReset.warnOnInvalid with
    | true => exact .checkInvalid _ _ [.warn s.act s.noReset.invalidCode.code] h3 hcode
    | false => exact .checkInvalid _ _ [] h3 hcode

theorem stepTo_of_step {s t : State} (h : step s = .next t) :
    s.config.wellFormed = true ∧ StepTo s t := by
  obtain ⟨hc, hcases⟩ := step_next h
  refine ⟨hc, ?_⟩
  obtain ⟨r, hr, rfl⟩ | ⟨-, -, hwait | husage | haccept | hwrite | hread | hcheck⟩ := hcases
  · exact .reset r hr
  · obtain ⟨h0, -, rfl⟩ := hwait
    exact .wait h0
  · obtain ⟨o, rest, u, h0, hcmd, -, rfl⟩ := husage
    exact .usage o rest u h0 hcmd
  · obtain ⟨o, rest, i, h0, hcmd, hp, rfl⟩ := haccept
    exact .accept o rest i h0 hcmd hp
  · obtain ⟨i, h1, -, hw⟩ := hwrite
    exact stepTo_of_write h1 hw
  · obtain ⟨i, h2, -, hr⟩ := hread
    exact stepTo_of_read h2 hr
  · obtain ⟨i, h3, -, rfl⟩ := hcheck
    exact stepTo_of_check h3 _

end Sys2Proof.Machine
end

section
/-! Rules of the whole machine, each by the cases of a step. -/

namespace Sys2Proof.Machine

/-- Settles O5: of the ways a step can go on, only a reset writes CFG, and none writes the
configuration. -/
theorem onlyResetWritesCfg : Obligations.OnlyResetWritesCfg := by
  unfold Obligations.OnlyResetWritesCfg
  intro s t h
  cases (stepTo_of_step h).2 with
  | reset r hr => exact ⟨by simp, fun hnone => by simp [hr] at hnone⟩
  | wait | usage | accept | writeDone | writeFatal | readDone | readShort | readErr | checkValid
  | checkInvalid => exact ⟨rfl, fun _ => rfl⟩

/-- Settles O55: the rows of the table, one for each way a step can go on. -/
theorem transitionsAreTheTable : Obligations.TransitionsAreTheTable := by
  unfold Obligations.TransitionsAreTheTable
  intro s t h
  cases (stepTo_of_step h).2 with
  | reset r hr => exact .inl ⟨by simp [hr], rfl⟩
  | wait h0 => exact .inr (.inl ⟨h0, .inl h0⟩)
  | usage o rest u h0 => exact .inr (.inl ⟨h0, .inl h0⟩)
  | accept o rest i h0 => exact .inr (.inl ⟨h0, .inr rfl⟩)
  | writeDone a rest h1 => exact .inr (.inr (.inl ⟨h1, .inl rfl⟩))
  | writeFatal a rest c h1 => exact .inr (.inr (.inl ⟨h1, .inr rfl⟩))
  | readDone b rest h2 => exact .inr (.inr (.inr (.inl ⟨h2, .inl rfl⟩)))
  | readShort b rest h2 => exact .inr (.inr (.inr (.inl ⟨h2, .inr rfl⟩)))
  | readErr rest h2 => exact .inr (.inr (.inr (.inl ⟨h2, .inr rfl⟩)))
  | checkValid r h3 => exact .inr (.inr (.inr (.inr ⟨h3, rfl⟩)))
  | checkInvalid code r warns h3 => exact .inr (.inr (.inr (.inr ⟨h3, rfl⟩)))

/-- Settles O54: the two holds, and of the table's rows only the reset starts in FATAL. -/
theorem fatalHoldsUntilReset : Obligations.FatalHoldsUntilReset := by
  unfold Obligations.FatalHoldsUntilReset
  refine ⟨fun s hlive h4 => step_of_fatal hlive h4, fun i s h4 => exec_of_fatal i h4,
    fun s t h4 h => ?_⟩
  obtain hreset | ⟨h0, -⟩ | ⟨h1, -⟩ | ⟨h2, -⟩ | ⟨h3, -⟩ := transitionsAreTheTable s t h
  · exact hreset
  · rw [h4] at h0; cases h0
  · rw [h4] at h1; cases h1
  · rw [h4] at h2; cases h2
  · rw [h4] at h3; cases h3

/-- The transactions a step may make in the state `s`: at most one of each kind on the channel and RES,
each in its exchange state, and only the oldest offer taken. -/
def TransactionsAllowed (s : State) (new : List PortEvent) : Prop :=
  writeCount new ≤ 1 ∧ readCount new ≤ 1 ∧ resCount new ≤ 1 ∧
    (∀ p r d, .chanWrite p r d ∈ new → s.state = 1 ∧ p = s.txbuf) ∧
    (∀ m r, .chanRead m r ∈ new → s.state = 2 ∧ m = 6) ∧
    (∀ r, .res r ∈ new → s.state = 3) ∧
    (∀ o, .cmd o ∈ new → s.state = 0 ∧ s.cmd.head? = some o)

section
variable {s : State}

theorem transactionsAllowed_abandoned (p : Packet) (d : List Byte) :
    TransactionsAllowed s (if s.state = Phase.write.code then [.writeAbandoned p d] else []) := by
  split <;> simp [TransactionsAllowed, writeCount, readCount, resCount]

theorem transactionsAllowed_nil : TransactionsAllowed s [] := by
  simp [TransactionsAllowed, writeCount, readCount, resCount]

theorem transactionsAllowed_usage {o : Offer} {rest : List Offer} (h0 : s.state = 0)
    (hcmd : s.cmd = o :: rest) (d : DiagRecord) : TransactionsAllowed s [.cmd o, .diag d] := by
  simp [TransactionsAllowed, writeCount, readCount, resCount, h0, hcmd]

theorem transactionsAllowed_cmd {o : Offer} {rest : List Offer} (h0 : s.state = 0)
    (hcmd : s.cmd = o :: rest) : TransactionsAllowed s [.cmd o] := by
  simp [TransactionsAllowed, writeCount, readCount, resCount, h0, hcmd]

theorem transactionsAllowed_chanWrite (h1 : s.state = 1) (r : WriteResult) (d : List Byte) :
    TransactionsAllowed s [.chanWrite s.txbuf r d] := by
  simp [TransactionsAllowed, writeCount, readCount, resCount, h1]
  exact fun _ _ _ hp _ _ => hp

theorem transactionsAllowed_chanRead (h2 : s.state = 2) (r : ReadAnswer) :
    TransactionsAllowed s [.chanRead 6 r] := by
  simp [TransactionsAllowed, writeCount, readCount, resCount, h2]

theorem transactionsAllowed_res (h3 : s.state = 3) (r : ResRecord) (warns : List DiagRecord) :
    TransactionsAllowed s (.res r :: warns.map .diag) := by
  simp [TransactionsAllowed, writeCount, readCount, resCount, h3, Function.comp_def]

end

/-- Settles O56: the transactions of each way a step can go on. -/
theorem portsGrowInTheirStates : Obligations.PortsGrowInTheirStates := by
  unfold Obligations.PortsGrowInTheirStates
  intro s t h
  show ∃ new, t.ports = s.ports ++ new ∧ TransactionsAllowed s new
  cases (stepTo_of_step h).2 with
  | reset r hr =>
    exact ⟨_, State.abandon_ports s.noReset r, transactionsAllowed_abandoned _ _⟩
  | wait h0 => exact ⟨[], by simp, transactionsAllowed_nil⟩
  | usage o rest u h0 hcmd =>
    exact ⟨[.cmd o, .diag (.usage o.act.code u.code)], by simp, transactionsAllowed_usage h0 hcmd _⟩
  | accept o rest i h0 hcmd => exact ⟨_, rfl, transactionsAllowed_cmd h0 hcmd⟩
  | writeDone a rest h1 => exact ⟨_, rfl, transactionsAllowed_chanWrite h1 _ _⟩
  | writeFatal a rest c h1 => exact ⟨_, rfl, transactionsAllowed_chanWrite h1 _ _⟩
  | readDone b rest h2 => exact ⟨_, rfl, transactionsAllowed_chanRead h2 _⟩
  | readShort b rest h2 => exact ⟨_, rfl, transactionsAllowed_chanRead h2 _⟩
  | readErr rest h2 => exact ⟨_, rfl, transactionsAllowed_chanRead h2 _⟩
  | checkValid r h3 => exact ⟨_, rfl, transactionsAllowed_res h3 r []⟩
  | checkInvalid code r warns h3 => exact ⟨_, rfl, transactionsAllowed_res h3 r warns⟩

/-- ACCEPT writes every register an exchange reads, so what they held plays no part (10_state.md R26). -/
theorem accept_withoutExchange (s : State) (r : Request) : s.withoutExchange.accept r = s.accept r :=
  rfl

theorem exec_of_idle (i : Instr) {s : State} (h0 : s.state = 0) :
    exec i s = .next (s.accept (requestOf s.config i)) := by
  rw [exec_eq_runCommand, runCommand_idle _ _ _ h0]

theorem not_running_of_ended {p : BitVec 3} (h : p = 0 ∨ p = 4) : ¬ (p = 1 ∨ p = 2 ∨ p = 3) := by
  rcases h with rfl | rfl <;> decide

/-- RESULT is written by the end of a command alone: the steps that write it end in IDLE or FATAL. -/
theorem StepTo.result_eq {s t : State} (h : StepTo s t)
    (ht : t.state = 1 ∨ t.state = 2 ∨ t.state = 3) : t.result = s.result := by
  cases h with
  | wait | accept | writeDone | readDone => rfl
  | usage o rest u h0 => simp [h0] at ht
  | reset | checkValid | checkInvalid => exact absurd ht (not_running_of_ended (.inl rfl))
  | writeFatal | readShort | readErr => exact absurd ht (not_running_of_ended (.inr rfl))

/-- Settles O57: `accept_withoutExchange` for the first half, `StepTo.result_eq` for the second. -/
theorem nothingCarriesOver : Obligations.NothingCarriesOver := by
  unfold Obligations.NothingCarriesOver
  refine ⟨fun i s s' h0 h0' heq => ?_, fun s t h ht => (stepTo_of_step h).2.result_eq ht⟩
  have hconfig : s.config = s'.config := by
    change s.withoutExchange.config = s'.withoutExchange.config
    rw [heq]
  rw [exec_of_idle i h0, exec_of_idle i h0', hconfig, ← accept_withoutExchange s, heq,
    accept_withoutExchange]

end Sys2Proof.Machine
end

section
/-! ACCEPT of each request format (30_encoding.md R48 to R51, 41_exchange.md R68). -/

namespace Sys2Proof.Machine

/-- The command read back from ACT, KIND and TXBUF after ACCEPT is the one accepted (log 1): a timer
value is put together from the bytes it was cut into. -/
theorem inFlight_accept (s : State) (c : Config) (i : Instr) :
    (s.accept (requestOf c i)).inFlight = some i := by
  simp only [State.inFlight, State.accept_act, State.accept_kind, State.accept_txbuf,
    Action.ofCode_code, Kind.ofCode_code]
  cases i with
  | armS t => exact congrArg (fun u => some (Instr.armS u)) (be16_hi8_lo8 t)
  | sarmS t => exact congrArg (fun u => some (Instr.sarmS u)) (be16_hi8_lo8 t)
  | alarmS t => exact congrArg (fun u => some (Instr.alarmS u)) (be16_hi8_lo8 t)
  | salarmS t => exact congrArg (fun u => some (Instr.salarmS u)) (be16_hi8_lo8 t)
  | _ => rfl

theorem accept_txbuf_eq_encode (s : State) (c : Config) (i : Instr) :
    (s.accept (requestOf c i)).txbuf = encode c i := by
  rw [State.accept_txbuf, encodePacket_requestOf]

/-- Settles O21: the state of ACCEPT, register by register. -/
theorem acceptSendsTheEncodedPacket : Obligations.AcceptSendsTheEncodedPacket := by
  unfold Obligations.AcceptSendsTheEncodedPacket
  intro i s h0
  exact ⟨_, exec_of_idle i h0, accept_txbuf_eq_encode s s.config i, requestOf_opc s.config i,
    inFlight_accept s s.config i, rfl⟩

/-- ACCEPT in the words of the statements: the eight registers of `State.sending`. -/
theorem exec_eq_sending (i : Instr) {s : State} (h0 : s.state = 0) :
    exec i s = .next (s.sending (requestOf s.config i).act.code (requestOf s.config i).kind.code
      (requestOf s.config i).opc (requestOf s.config i).f1 (requestOf s.config i).f2) :=
  exec_of_idle i h0

/-- Settles O23: the request of each query. -/
theorem queriesSendFormatQ : Obligations.QueriesSendFormatQ := by
  unfold Obligations.QueriesSendFormatQ
  intro s h0
  exact ⟨exec_eq_sending .ping h0, exec_eq_sending .temp h0, exec_eq_sending .status h0,
    exec_eq_sending .switches h0, exec_eq_sending .version h0, exec_eq_sending .armQ h0,
    exec_eq_sending .sarmQ h0, exec_eq_sending .alarmQ h0, exec_eq_sending .salarmQ h0,
    exec_eq_sending .trigQ h0, exec_eq_sending .relayQ h0, exec_eq_sending .buzzerQ h0,
    exec_eq_sending .countQ h0, exec_eq_sending .pulseQ h0⟩

/-- Settles O24: the request of each timer set, its value cut back into the two bytes. -/
theorem timerSetsSendFormatT16 : Obligations.TimerSetsSendFormatT16 := by
  unfold Obligations.TimerSetsSendFormatT16
  intro s h l h0
  simp only [exec_eq_sending _ h0, requestOf, hi8_append, lo8_append]
  exact ⟨rfl, rfl, rfl, rfl⟩

/-- Settles O25: the request of each byte set and of each counter clear. -/
theorem byteSetsSendFormatB8 : Obligations.ByteSetsSendFormatB8 := by
  unfold Obligations.ByteSetsSendFormatB8
  intro s v h0
  exact ⟨exec_eq_sending (.relayS v) h0, exec_eq_sending (.buzzerS v) h0,
    exec_eq_sending (.pulseS v) h0, exec_eq_sending .trigClr h0, exec_eq_sending .countClr h0⟩

/-- Settles O26: the request of ENABLE and DISABLE, and RESET's with its parameter cut in two. -/
theorem controlCommandsSendMagic : Obligations.ControlCommandsSendMagic := by
  unfold Obligations.ControlCommandsSendMagic
  intro s h l h0
  refine ⟨exec_eq_sending .enable h0, exec_eq_sending .disable h0, fun hpayload => ?_⟩
  simp only [exec_eq_sending _ h0, requestOf, hpayload, hi8_append, lo8_append]
  rfl

end Sys2Proof.Machine
end

section
/-! The channel steps and an invalid reply (41_exchange.md R70 to R74), for every command. -/

namespace Sys2Proof.Machine

/-! ### Overwriting a packet -/

/-- Overwriting replaces the first bytes and keeps the others (41_exchange.md R71). -/
theorem overwrite_getD (p : Packet) {b : List Byte} (hb : b.length ≤ 6) (k : Nat) :
    (p.overwrite b).bytes.getD k 0 = if k < b.length then b.getD k 0 else p.bytes.getD k 0 := by
  have hbyte : ∀ j (old : Byte), b.getD j old = if j < b.length then b.getD j 0 else old := by
    intro j old
    split
    · next hj => rw [List.getD_eq_getElem _ _ hj, List.getD_eq_getElem _ _ hj]
    · next hj => exact List.getD_eq_default _ _ (by omega)
  rcases k with _ | _ | _ | _ | _ | _ | k
  · exact hbyte 0 _
  · exact hbyte 1 _
  · exact hbyte 2 _
  · exact hbyte 3 _
  · exact hbyte 4 _
  · exact hbyte 5 _
  · rw [if_neg (by omega)]
    rfl

theorem zero_getD (k : Nat) : Packet.zero.bytes.getD k 0 = 0 := by
  rcases k with _ | _ | _ | _ | _ | _ | k <;> rfl

theorem rxcnt_toNat {n : Nat} (h : n ≤ 6) : (BitVec.ofNat 3 n).toNat = n := by
  rw [BitVec.toNat_ofNat]
  exact Nat.mod_eq_of_lt (by omega)

/-! ### WRITE -/

theorem exec_of_write (i : Instr) {s : State} (h1 : s.state = 1) : exec i s = writeStep s := by
  rw [exec_eq_runCommand, runCommand_write _ _ _ h1]

theorem writeStep_of_answer {s : State} {a : WriteAnswer} {rest : List WriteAnswer}
    (h : s.chw = a :: rest) :
    writeStep s = .next (({ s with chw := rest }.post
      (.chanWrite s.txbuf a.result (a.delivered s.txbuf))).afterWrite a.result) := by
  rw [writeStep, h]

theorem writeStep_of_noAnswer {s : State} (h : s.chw = []) :
    writeStep s = .fault .writeNeverAnswered := by
  rw [writeStep, h]

/-- Settles O27: one equation of `writeStep` for each answer. -/
theorem writeStepOfEveryCommand : Obligations.WriteStepOfEveryCommand := by
  unfold Obligations.WriteStepOfEveryCommand
  intro i s h1
  rw [exec_of_write i h1]
  refine ⟨fun n rest h => ?_, fun c n rest h hc => ?_, fun n rest h => ?_, writeStep_of_noAnswer⟩
  · rw [writeStep_of_answer h]
    rfl
  · rw [writeStep_of_answer h]
    simp only [State.afterWrite, WriteAnswer.delivered, if_neg hc]
    rfl
  · rw [writeStep_of_answer h]
    rfl

/-! ### READ -/

theorem exec_of_read (i : Instr) {s : State} (h2 : s.state = 2) : exec i s = readStep s := by
  rw [exec_eq_runCommand, runCommand_read _ _ _ h2]

theorem readStep_of_answer {s : State} {a : ReadAnswer} {rest : List ReadAnswer}
    (h : s.chr = a :: rest) :
    readStep s = .next (({ s with chr := rest }.post (.chanRead 6 a.atMostSix)).afterRead
      a.atMostSix) := by
  rw [readStep, h]

theorem readStep_of_noAnswer {s : State} (h : s.chr = []) :
    readStep s = .fault .readNeverAnswered := by
  rw [readStep, h]

theorem atMostSix_of_le {b : List Byte} (h : b.length ≤ 6) :
    (ReadAnswer.ok b).atMostSix = .ok b := by
  rw [ReadAnswer.atMostSix, List.take_of_length_le h]

/-- What ChanRead's bytes lead to, by their number and SHORT_READ_FATAL. -/
theorem afterRead_ok (s : State) (b : List Byte) :
    s.afterRead (.ok b) =
      if b.length < 6 ∧ s.shortReadFatal = true then (s.received b).raise (.fatal .readShort)
      else { s.received b with state := Phase.check.code } := rfl

/-- Settles O28: the state the bytes leave is `State.received`, and one equation of `readStep` for each
answer. -/
theorem readStepOfEveryCommand : Obligations.ReadStepOfEveryCommand := by
  unfold Obligations.ReadStepOfEveryCommand
  intro i s h2
  rw [exec_of_read i h2]
  refine ⟨fun b rest h hb => ?_, fun rest h => ?_, readStep_of_noAnswer⟩
  · have hread := readStep_of_answer h
    rw [atMostSix_of_le hb, afterRead_ok] at hread
    refine ⟨({ s with chr := rest }.post (.chanRead 6 (.ok b))).received b, fun k hk => ?_,
      fun k hk => ?_, rxcnt_toNat hb, rfl, fun hgo => ?_, fun hlt hcfg => ?_⟩
    · exact (overwrite_getD s.rxbuf hb k).trans (if_pos hk)
    · exact (overwrite_getD s.rxbuf hb k).trans (if_neg (by omega))
    · have hgo' : ¬ (b.length < 6 ∧ s.cfg.getLsbD 1 = true) := by
        rintro ⟨hlt, hcfg⟩
        rcases hgo with h6 | hclear
        · omega
        · rw [hcfg] at hclear
          cases hclear
      rw [hread]
      exact congrArg _ (if_neg hgo')
    · rw [hread]
      exact congrArg _ (if_pos ⟨hlt, hcfg⟩)
  · rw [readStep_of_answer h]
    rfl

/-! ### CHECK of an invalid reply -/

theorem exec_of_check (i : Instr) {s : State} (h3 : s.state = 3) :
    exec i s = .next (s.check (postOf i)) := by
  rw [exec_eq_runCommand, runCommand_check _ _ _ h3]

/-- CHECK of an invalid reply in the words of the statements. -/
theorem exec_eq_skipped (i : Instr) {s : State} (h3 : s.state = 3) (h : s.replyValid = false) :
    exec i s = .next (s.skipped s.invalidCode.code) := by
  rw [exec_of_check i h3, State.check_invalid _ _ h]
  rfl

/-- Settles O29: the reply is invalid in both clauses, and RXCNT below 6 is short whatever byte 0 is. -/
theorem invalidReplyIsSkipped : Obligations.InvalidReplyIsSkipped := by
  unfold Obligations.InvalidReplyIsSkipped
  intro i s h3 hle
  refine ⟨fun hne => ?_, fun h6 hmismatch => ?_⟩
  · have hlt : s.rxcnt.toNat < 6 := by
      have : s.rxcnt.toNat ≠ 6 := fun h => hne (BitVec.eq_of_toNat_eq h)
      omega
    have hv : s.replyValid = false := by rw [State.replyValid, beq_false_of_ne hne, Bool.false_and]
    rw [exec_eq_skipped i h3 hv, State.invalidCode, if_pos hlt]
    rfl
  · have hv : s.replyValid = false := by
      rw [State.replyValid, beq_false_of_ne hmismatch, Bool.and_false]
    rw [exec_eq_skipped i h3 hv, State.invalidCode, h6]
    rfl

end Sys2Proof.Machine
end

section
/-! The invariant of the block: its three parts (the codes of STATE, RESULT and FCAUSE; the request; the
reply), what establishes each, and every step keeping all three. -/

namespace Sys2Proof.Machine

/-! ### The three parts of the invariant -/

/-- STATE, RESULT and FCAUSE hold codes some rule writes, and those of FATAL together or not at all
(10_state.md R15 to R18, 60_exceptions.md R146). -/
structure State.CodesAgree (s : State) : Prop where
  encodings : s.state.toNat < 5 ∧ s.result.toNat < 12 ∧ s.fcause.toNat < 5
  fcause : s.fcause ≠ 0 ↔ s.state = 4
  outcome : (s.result = 10 ∨ s.result = 11) ↔ s.state = 4
  cause : s.state = 4 → (s.result = 10 ∧ (s.fcause = 1 ∨ s.fcause = 2)) ∨
    (s.result = 11 ∧ (s.fcause = 3 ∨ s.fcause = 4))

/-- The registers of the request describe a command of the table (30_encoding.md R46, R56). -/
structure State.RequestAgrees (s : State) : Prop where
  encodings : s.act.toNat < 17
  reserved : s.txbuf.p3 = 0 ∧ s.txbuf.p4 = 0 ∧ s.txbuf.p5 = 0
  sent : s.sentOpc = s.txbuf.p0
  command : s.state ≠ 0 → ∃ i, s.inFlight = some i ∧ i.wf = true ∧ s.txbuf = encode s.config i

/-- RXBUF and RXCNT hold what the exchange has received so far (41_exchange.md R68, R71). -/
structure State.ReplyAgrees (s : State) : Prop where
  rxcnt : s.rxcnt.toNat ≤ 6
  cleared : s.state = 1 ∨ s.state = 2 → s.rxcnt = 0 ∧ s.rxbuf = ⟨0, 0, 0, 0, 0, 0⟩
  zeroTail : ∀ k, s.rxcnt.toNat ≤ k → s.rxbuf.bytes.getD k 0 = 0
  fullCheck : s.state = 3 → s.cfg.getLsbD 1 = true → s.rxcnt = 6

theorem State.inv_iff (s : State) :
    s.Inv ↔ s.config.wellFormed = true ∧ s.CodesAgree ∧ s.RequestAgrees ∧ s.ReplyAgrees := by
  constructor
  · intro h
    obtain ⟨hstate, hact, hresult, hfcause⟩ := (State.neverWritten_eq_none_iff s).1 h.encodings
    exact ⟨h.config, ⟨⟨hstate, hresult, hfcause⟩, h.fcause, h.outcome, h.cause⟩,
      ⟨hact, h.reserved, h.sent, h.command⟩, ⟨h.rxcnt, h.cleared, h.zeroTail, h.fullCheck⟩⟩
  · rintro ⟨hconfig, hcodes, hreq, hreply⟩
    obtain ⟨hstate, hresult, hfcause⟩ := hcodes.encodings
    exact ⟨hconfig, (State.neverWritten_eq_none_iff s).2 ⟨hstate, hreq.encodings, hresult, hfcause⟩,
      hreply.rxcnt, hreq.reserved, hreq.sent, hcodes.fcause, hcodes.outcome, hcodes.cause,
      hreq.command, hreply.cleared, hreply.zeroTail, hreply.fullCheck⟩

/-! ### The codes -/

theorem Phase.code_of_ne_fatal {p : Phase} (hp : p ≠ .fatal) : p.code.toNat < 5 ∧ p.code ≠ 4 := by
  cases p
  case fatal => exact absurd rfl hp
  all_goals decide

theorem Phase.code_of_ne_check {p : Phase} (hp : p ≠ .check) : p.code ≠ 3 := by
  cases p
  case check => exact absurd rfl hp
  all_goals decide

/-- The codes of a fatal cause are a row of 60_exceptions.md R146. -/
theorem FatalCause.codes (c : FatalCause) :
    c.outcome.code.toNat < 12 ∧ c.code.toNat < 5 ∧ c.code ≠ 0 ∧
      ((c.outcome.code = 10 ∧ (c.code = 1 ∨ c.code = 2)) ∨
        (c.outcome.code = 11 ∧ (c.code = 3 ∨ c.code = 4))) := by
  cases c <;> decide

theorem Phase.code_of_check_or_fatal {p : Phase} (hp : p = .check ∨ p = .fatal) :
    ¬ (p.code = 1 ∨ p.code = 2) ∧ (p.code = 3 → p = .check) := by
  rcases hp with rfl | rfl <;> decide

section
variable {s t : State}

/-- Outside FATAL: no cause, and an outcome below the fatal ones. -/
theorem State.CodesAgree.of_not_fatal (p : Phase) (hp : p ≠ .fatal) (hstate : t.state = p.code)
    (hresult : t.result.toNat < 10) (hfcause : t.fcause = 0) : t.CodesAgree := by
  obtain ⟨h5, h4⟩ := Phase.code_of_ne_fatal hp
  rw [← hstate] at h5 h4
  refine ⟨⟨h5, by omega, by simp [hfcause]⟩, iff_of_false (fun h => h hfcause) h4,
    iff_of_false ?_ h4, fun h => absurd h h4⟩
  rintro (h | h) <;> rw [h] at hresult <;> simp at hresult

/-- In FATAL: the codes of one row of 60_exceptions.md R146. -/
theorem State.CodesAgree.of_fatal (c : FatalCause) (hstate : t.state = 4)
    (hresult : t.result = c.outcome.code) (hfcause : t.fcause = c.code) : t.CodesAgree := by
  obtain ⟨hr, hf, hne, hrow⟩ := c.codes
  rw [← hresult, ← hfcause] at hrow
  rw [← hresult] at hr
  rw [← hfcause] at hf hne
  exact ⟨⟨by rw [hstate]; decide, hr, hf⟩, iff_of_true hne hstate,
    iff_of_true (hrow.imp And.left And.left) hstate, fun _ => hrow⟩

theorem State.CodesAgree.not_fatal (h : s.CodesAgree) (h4 : s.state ≠ 4) :
    s.result.toNat < 10 ∧ s.fcause = 0 := by
  obtain ⟨-, hlt, -⟩ := h.encodings
  have houtcome := mt h.outcome.1 h4
  push Not at houtcome
  refine ⟨?_, by simpa using mt h.fcause.1 h4⟩
  have h10 : s.result.toNat ≠ 10 := fun e => houtcome.1 (BitVec.eq_of_toNat_eq e)
  have h11 : s.result.toNat ≠ 11 := fun e => houtcome.2 (BitVec.eq_of_toNat_eq e)
  omega

/-- A step that stays out of FATAL and writes neither RESULT nor FCAUSE. -/
theorem State.CodesAgree.move (h : s.CodesAgree) (h4 : s.state ≠ 4) (p : Phase) (hp : p ≠ .fatal)
    (hstate : t.state = p.code) (hresult : t.result = s.result) (hfcause : t.fcause = s.fcause) :
    t.CodesAgree := by
  obtain ⟨hr, hf⟩ := h.not_fatal h4
  exact .of_not_fatal p hp hstate (hresult ▸ hr) (hfcause.trans hf)

/-- A step that ends a command in IDLE with an outcome that is not fatal. -/
theorem State.CodesAgree.finish (h : s.CodesAgree) (h4 : s.state ≠ 4) (hstate : t.state = 0)
    {code : BitVec 4} (hcode : code.toNat < 10) (hresult : t.result = code)
    (hfcause : t.fcause = s.fcause) : t.CodesAgree :=
  .of_not_fatal .idle (by decide) hstate (hresult ▸ hcode) (hfcause.trans (h.not_fatal h4).2)

/-! ### The request -/

/-- The registers the request part speaks of, beside STATE. -/
def State.request (s : State) : BitVec 5 × BitVec 1 × Packet × Byte × Config :=
  (s.act, s.kind, s.txbuf, s.sentOpc, s.config)

theorem State.RequestAgrees.of_eq (h : s.RequestAgrees) (hreq : t.request = s.request)
    (hstate : t.state ≠ 0 → s.state ≠ 0) : t.RequestAgrees := by
  simp only [State.request, Prod.mk.injEq] at hreq
  obtain ⟨hact, hkind, htx, hsent, hconfig⟩ := hreq
  have hfl : t.inFlight = s.inFlight := by rw [State.inFlight, hact, hkind, htx]; rfl
  refine ⟨by rw [hact]; exact h.encodings, by rw [htx]; exact h.reserved, by rw [hsent, htx, h.sent],
    fun h0 => ?_⟩
  rw [hfl, htx, hconfig]
  exact h.command (hstate h0)

theorem State.RequestAgrees.accept {c : Config} (hc : s.config = c) {i : Instr}
    (hwf : i.wf = true) : (s.accept (requestOf c i)).RequestAgrees := by
  refine ⟨Action.code_lt _, ⟨rfl, rfl, rfl⟩, rfl, fun _ => ⟨i, inFlight_accept s c i, hwf, ?_⟩⟩
  rw [accept_txbuf_eq_encode, State.accept_config, hc]

/-! ### The reply -/

theorem State.ReplyAgrees.of_cleared (hcnt : t.rxcnt = 0) (hbuf : t.rxbuf = Packet.zero)
    (p : Phase) (hp : p ≠ .check) (hstate : t.state = p.code) : t.ReplyAgrees := by
  have h3 : t.state ≠ 3 := hstate ▸ Phase.code_of_ne_check hp
  refine ⟨by simp [hcnt], fun _ => ⟨hcnt, hbuf⟩, fun k _ => ?_, fun h => absurd h h3⟩
  rw [hbuf]
  exact zero_getD k

/-- The bytes of a reply stored in cleared registers. -/
theorem State.ReplyAgrees.of_received {b : List Byte} (hb : b.length ≤ 6)
    (hcnt : t.rxcnt = BitVec.ofNat 3 b.length) (hbuf : t.rxbuf = Packet.zero.overwrite b)
    (p : Phase) (hp : p = .check ∨ p = .fatal)
    (hstate : t.state = p.code)
    (hfull : p = .check → t.cfg.getLsbD 1 = true → b.length = 6) : t.ReplyAgrees := by
  obtain ⟨hnot, hcheck⟩ := Phase.code_of_check_or_fatal hp
  rw [← hstate] at hnot hcheck
  have hlen : t.rxcnt.toNat = b.length := by rw [hcnt, rxcnt_toNat hb]
  refine ⟨hlen ▸ hb, fun h => absurd h hnot, fun k hk => ?_, fun h3 hcfg => ?_⟩
  · rw [hbuf, overwrite_getD _ hb, if_neg (by omega), zero_getD]
  · rw [hcnt, hfull (hcheck h3) hcfg]
    rfl

/-- In IDLE the reply of the last exchange stays as it was. -/
theorem State.ReplyAgrees.idle (h : s.ReplyAgrees) (hcnt : t.rxcnt = s.rxcnt)
    (hbuf : t.rxbuf = s.rxbuf) (h0 : t.state = 0) : t.ReplyAgrees := by
  have hnot : ¬ (t.state = 1 ∨ t.state = 2) ∧ t.state ≠ 3 := by rw [h0]; decide
  refine ⟨hcnt ▸ h.rxcnt, fun h' => absurd h' hnot.1, fun k hk => ?_, fun h' => absurd h' hnot.2⟩
  rw [hbuf]
  exact h.zeroTail k (hcnt ▸ hk)

end

/-! ### Reset establishes the invariant -/

theorem State.Inv.of_registersReset {t : State} {cfg : BitVec 2} (hc : t.config.wellFormed = true)
    (h : t.RegistersReset cfg) : t.Inv := by
  obtain ⟨hstate, hact, -, htx, hsent, hrx, hcnt, hresult, hfcause, -⟩ := h
  refine t.inv_iff.2 ⟨hc, ?_, ?_, ?_⟩
  · exact .of_not_fatal .idle (by decide) hstate (by simp [hresult]) hfcause
  · exact ⟨by simp [hact], by simp [htx], by simp [htx, hsent], fun h0 => absurd hstate h0⟩
  · exact .of_cleared hcnt hrx .idle (by decide) hstate

/-- Settles O1: the fields as `State.reset` writes them. -/
theorem resetStateRegisters : Obligations.ResetStateRegisters := by
  unfold Obligations.ResetStateRegisters
  exact ⟨rfl, rfl, rfl, rfl, rfl, rfl, rfl, rfl, rfl, rfl⟩

theorem atReset_wellFormed : Config.atReset.wellFormed = true := by decide

/-- Settles O2: the registers are reset, and the configuration is admitted. -/
theorem resetStateMeetsInvariant : Obligations.ResetStateMeetsInvariant := by
  unfold Obligations.ResetStateMeetsInvariant
  exact .of_registersReset atReset_wellFormed resetStateRegisters

/-! ### Every step keeps the invariant -/

theorem ne_four_of_running {p : BitVec 3} (h : p = 0 ∨ p = 1 ∨ p = 2 ∨ p = 3) : p ≠ 4 := by
  rcases h with rfl | rfl | rfl | rfl <;> decide

theorem StepTo.config_eq {s t : State} (h : StepTo s t) : t.config = s.config := by
  cases h with
  | reset r hr => simp
  | wait | usage | accept | writeDone | writeFatal | readDone | readShort | readErr | checkValid
  | checkInvalid => rfl

theorem StepTo.codesAgree {s t : State} (h : StepTo s t) (hs : s.CodesAgree) : t.CodesAgree := by
  have running := @ne_four_of_running s.state
  cases h with
  | reset => exact .of_not_fatal .idle (by decide) rfl (Nat.zero_lt_succ 9) rfl
  | wait h0 => exact hs.move (running (.inl h0)) .idle (by decide) h0 rfl rfl
  | usage o rest u h0 =>
    have hcode : u.code.toNat < 10 := Nat.lt_succ_of_le u.code_range.2
    exact hs.finish (running (.inl h0)) h0 hcode rfl rfl
  | accept o rest i h0 => exact hs.move (running (.inl h0)) .write (by decide) rfl rfl rfl
  | writeDone a rest h1 => exact hs.move (running (.inr (.inl h1))) .read (by decide) rfl rfl rfl
  | writeFatal a rest c h1 => exact .of_fatal c rfl rfl rfl
  | readDone b rest h2 =>
    exact hs.move (running (.inr (.inr (.inl h2)))) .check (by decide) rfl rfl rfl
  | readShort b rest h2 => exact .of_fatal .readShort rfl rfl rfl
  | readErr rest h2 => exact .of_fatal .readErr rfl rfl rfl
  | checkValid r h3 =>
    exact hs.finish (running (.inr (.inr (.inr h3)))) rfl (code := 1) (by decide) rfl rfl
  | checkInvalid code r warns h3 hcode =>
    have hlt : code.code.toNat < 10 := by rcases hcode with rfl | rfl <;> decide
    exact hs.finish (running (.inr (.inr (.inr h3)))) rfl hlt rfl rfl

theorem StepTo.requestAgrees {s t : State} (h : StepTo s t) (hs : s.RequestAgrees) :
    t.RequestAgrees := by
  cases h with
  | reset => exact ⟨Nat.zero_lt_succ 16, ⟨rfl, rfl, rfl⟩, rfl, fun h0 => absurd rfl h0⟩
  | wait | usage => exact hs.of_eq rfl id
  | accept o rest i h0 hcmd hp => exact .accept (s := s.noReset.takeOffer o rest) rfl (wf_of_plan hp)
  | writeDone a rest h1 | writeFatal a rest c h1 => exact hs.of_eq rfl (by simp [h1])
  | readDone b rest h2 | readShort b rest h2 | readErr rest h2 => exact hs.of_eq rfl (by simp [h2])
  | checkValid | checkInvalid => exact hs.of_eq rfl fun h0 => absurd rfl h0

theorem StepTo.replyAgrees {s t : State} (h : StepTo s t) (hs : s.ReplyAgrees) : t.ReplyAgrees := by
  cases h with
  | reset => exact .of_cleared rfl rfl .idle (by decide) rfl
  | accept => exact .of_cleared rfl rfl .write (by decide) rfl
  | wait h0 | usage o rest u h0 => exact hs.idle rfl rfl h0
  | writeDone a rest h1 =>
    obtain ⟨hcnt, hbuf⟩ := hs.cleared (.inl h1)
    exact .of_cleared hcnt hbuf .read (by decide) rfl
  | writeFatal a rest c h1 =>
    obtain ⟨hcnt, hbuf⟩ := hs.cleared (.inl h1)
    exact .of_cleared hcnt hbuf .fatal (by decide) rfl
  | readDone b rest h2 hb hfull =>
    obtain ⟨-, hbuf⟩ := hs.cleared (.inr h2)
    exact .of_received hb rfl (congrArg (·.overwrite b) hbuf) .check (.inl rfl) rfl fun _ => hfull
  | readShort b rest h2 hb =>
    obtain ⟨-, hbuf⟩ := hs.cleared (.inr h2)
    exact .of_received hb.le rfl (congrArg (·.overwrite b) hbuf) .fatal (.inr rfl) rfl nofun
  | readErr rest h2 =>
    obtain ⟨hcnt, hbuf⟩ := hs.cleared (.inr h2)
    exact .of_cleared hcnt hbuf .fatal (by decide) rfl
  | checkValid | checkInvalid => exact hs.idle rfl rfl rfl

/-- Settles O4: each part of the invariant by the ways a step can go on. -/
theorem stepKeepsInvariant : Obligations.StepKeepsInvariant := by
  unfold Obligations.StepKeepsInvariant
  intro s t hinv h
  obtain ⟨hc, hcodes, hreq, hreply⟩ := s.inv_iff.1 hinv
  have hto := (stepTo_of_step h).2
  exact t.inv_iff.2 ⟨hto.config_eq ▸ hc, hto.codesAgree hcodes, hto.requestAgrees hreq,
    hto.replyAgrees hreply⟩

end Sys2Proof.Machine
end

section
/-! CHECK of a valid reply, family by family: what each decoder reads from the payload and the lines it
gives (42_status_switches.md to 47_other_commands.md). -/

namespace Sys2Proof.Machine

/-! ### Bits -/

/-- A mask of one bit tests that bit. -/
theorem maskTest_twoPow (b : Byte) {k : Nat} (hk : k < 8) :
    (b &&& BitVec.twoPow 8 k != 0) = b.getLsbD k := by
  have hne : BitVec.twoPow 8 k ≠ 0 := by interval_cases k <;> decide
  rw [BitVec.and_twoPow]
  cases b.getLsbD k
  · rfl
  · exact bne_iff_ne.2 hne

theorem statusDecode_getLsbD (b : Byte) :
    statusDecode b = ⟨b.getLsbD 7, b.getLsbD 0, b.getLsbD 1⟩ := by
  rw [StatusFields.mk.injEq]
  exact ⟨maskTest_twoPow b (k := 7) (by decide), maskTest_twoPow b (k := 0) (by decide),
    maskTest_twoPow b (k := 1) (by decide)⟩

theorem buzzerDecode_getLsbD (b : Byte) :
    buzzerDecode b =
      ⟨b.getLsbD 0, b.getLsbD 1, b.getLsbD 2, b.getLsbD 3, b.getLsbD 7⟩ := by
  rw [BuzzerFields.mk.injEq]
  exact ⟨maskTest_twoPow b (k := 0) (by decide), maskTest_twoPow b (k := 1) (by decide),
    maskTest_twoPow b (k := 2) (by decide), maskTest_twoPow b (k := 3) (by decide),
    maskTest_twoPow b (k := 7) (by decide)⟩

/-- The relay mode by its bits, LATCH before PULSE (R104). -/
def relayModeOf (latch pulse : Bool) : RelayMode :=
  if latch then .latch else if pulse then .pulse else .none

theorem relayDecode_getLsbD (b : Byte) :
    relayDecode b = ⟨b.getLsbD 0, relayModeOf (b.getLsbD 2) (b.getLsbD 1), b.getLsbD 7⟩ := by
  have hlatch := maskTest_twoPow b (k := 2) (by decide)
  have hpulse := maskTest_twoPow b (k := 1) (by decide)
  rw [← hlatch, ← hpulse, RelayFields.mk.injEq]
  exact ⟨maskTest_twoPow b (k := 0) (by decide), rfl, maskTest_twoPow b (k := 7) (by decide)⟩

/-! ### Replies whose record and lines are read off the payload -/

/-- Settles O30: the three flags by their bits. -/
theorem statusReplyIsDecoded : Obligations.StatusReplyIsDecoded := by
  unfold Obligations.StatusReplyIsDecoded
  intro s h
  rw [exec_of_validReply h, postOf, postStatus, statusDecode_getLsbD]
  rfl

/-- Settles O32: the two payload bytes as one number. -/
theorem timerRepliesAreDecoded : Obligations.TimerRepliesAreDecoded := by
  unfold Obligations.TimerRepliesAreDecoded
  intro s t h ht
  have hpost : postTimer s.config s.rxbuf = ⟨some (.timer t), [dec t]⟩ := by
    rw [postTimer, timerDecode, be16_toNat, ← ht]
    rfl
  simp only [exec_of_validReply h, postOf, hpost, and_self]

/-- Settles O35: byte 2 as the count, or as the count there was before the clear. -/
theorem counterRepliesAreDecoded : Obligations.CounterRepliesAreDecoded := by
  unfold Obligations.CounterRepliesAreDecoded
  intro s h
  exact ⟨exec_of_validReply h .trigQ, exec_of_validReply h .countQ, exec_of_validReply h .trigClr,
    exec_of_validReply h .countClr⟩

/-- Settles O38: the payload as it came. -/
theorem versionReplyIsRaw : Obligations.VersionReplyIsRaw := by
  unfold Obligations.VersionReplyIsRaw
  exact fun s h => exec_of_validReply h .version

/-- Settles O39: the seven sets share `postRaw`. -/
theorem setRepliesAreRaw : Obligations.SetRepliesAreRaw := by
  unfold Obligations.SetRepliesAreRaw
  intro s t v h i hi
  have hpost : postOf i = postRaw := by
    simp only [List.mem_cons, List.not_mem_nil, or_false] at hi
    rcases hi with rfl | rfl | rfl | rfl | rfl | rfl | rfl <;> rfl
  rw [exec_of_validReply h, hpost]
  rfl

/-- Settles O40: the four commands share `postNothing`. -/
theorem controlRepliesDecodeNothing : Obligations.ControlRepliesDecodeNothing := by
  unfold Obligations.ControlRepliesDecodeNothing
  intro s h i hi
  have hpost : postOf i = postNothing := by
    simp only [List.mem_cons, List.not_mem_nil, or_false] at hi
    rcases hi with rfl | rfl | rfl | rfl <;> rfl
  rw [exec_of_validReply h, hpost]
  rfl

/-- No reply decoder looks at bytes 3 to 5 (30_encoding.md R54). -/
theorem postOf_reserved (i : Instr) (c : Config) (rx : Packet) (b3 b4 b5 : Byte) :
    postOf i c { rx with p3 := b3, p4 := b4, p5 := b5 } = postOf i c rx := by
  cases i <;> rfl

/-- Settles O41: the reply is valid with either reserved bytes, and its decoder gives the same. -/
theorem reservedReplyBytesAreIgnored : Obligations.ReservedReplyBytesAreIgnored := by
  unfold Obligations.ReservedReplyBytesAreIgnored
  intro i s b3 b4 b5 h
  refine ⟨_, _, exec_of_validReply h i, ?_⟩
  rw [← postOf_reserved i s.config s.rxbuf b3 b4 b5]
  exact exec_of_validReply (s := { s with rxbuf := { s.rxbuf with p3 := b3, p4 := b4, p5 := b5 } })
    h i

/-! ### Switches -/

/-- The rows of DELAY_TABLE with their phrases (R82, R85). -/
def delayPhrases : List (Nat × Nat × Text) :=
  [(0, 5, ascii "5 seconds"), (1, 10, ascii "10 seconds"), (2, 30, ascii "30 seconds"),
   (3, 60, ascii "1 minute"), (4, 300, ascii "5 minutes"), (5, 600, ascii "10 minutes"),
   (6, 1800, ascii "30 minutes"), (7, 3600, ascii "1 hour")]

theorem delayPhrases_row : ∀ x ∈ delayPhrases,
    lit.delayTable.getD x.1 0 = x.2.1 ∧ delayPhrase x.2.1 = x.2.2 := by
  decide

theorem switchDecode_delayIndex (c : Config) (b : Byte) :
    (switchDecode c b).delayIndex = b.toNat % 8 := by
  simp [switchDecode]

theorem switchDecode_delaySeconds (c : Config) (b : Byte) :
    (switchDecode c b).delaySeconds = lit.delayTable.getD (b.toNat % 8) 0 := by
  simp [switchDecode]

/-- The five switch lines' beginnings. -/
theorem switchLine_start :
    ascii "switch " ++ dec 1 ++ ascii ": " = ascii "switch 1: " ∧
    ascii "switch " ++ dec 2 ++ ascii ": " = ascii "switch 2: " ∧
    ascii "switch " ++ dec 3 ++ ascii ": " = ascii "switch 3: " ∧
    ascii "switch " ++ dec 4 ++ ascii ": " = ascii "switch 4: " ∧
    ascii "switch " ++ dec 5 ++ ascii ": " = ascii "switch 5: " := by
  decide

/-- Settles O31: the switches bit by bit, the delay by its row. -/
theorem switchesReplyIsDecoded : Obligations.SwitchesReplyIsDecoded := by
  unfold Obligations.SwitchesReplyIsDecoded
  intro s delay phrase h hrow
  obtain ⟨hdelay, hphrase⟩ := delayPhrases_row _ hrow
  have hseconds := (switchDecode_delaySeconds s.config s.rxbuf.p2).trans hdelay
  refine ⟨switchDecode s.config s.rxbuf.p2, rfl, rfl, rfl, rfl, rfl, switchDecode_delayIndex _ _,
    hseconds, ?_⟩
  obtain ⟨h1, h2, h3, h4, h5⟩ := switchLine_start
  rw [exec_of_validReply h, postOf, postSwitches, switchLines, hseconds, hphrase]
  simp only [switchLine, h1, h2, h3, h4, h5]

/-! ### Relay, buzzer and pulse -/

/-- RELAY_LINES with the mode's line by the two bits. -/
theorem relayLines_of_bits (on latch pulse inversion : Bool) :
    relayLines ⟨on, relayModeOf latch pulse, inversion⟩ =
      [if on then ascii "relay is on" else ascii "relay is off"] ++
      (if latch then [ascii "relay latches on reset"]
        else if pulse then [ascii "relay pulses on reset"] else []) ++
      (if inversion then [ascii "relay inversion is active"] else []) := by
  cases latch
  · cases pulse <;> rfl
  · rfl

/-- Settles O33: the record by the four bits, and its lines. -/
theorem relayReplyIsDecoded : Obligations.RelayReplyIsDecoded := by
  unfold Obligations.RelayReplyIsDecoded
  intro s h
  refine ⟨⟨s.rxbuf.p2.getLsbD 0, relayModeOf (s.rxbuf.p2.getLsbD 2) (s.rxbuf.p2.getLsbD 1),
    s.rxbuf.p2.getLsbD 7⟩, rfl, rfl, fun h2 => ?_, fun h2 h1 => ?_, fun h2 h1 => ?_, ?_⟩
  · rw [h2]; rfl
  · rw [h2, h1]; rfl
  · rw [h2, h1]; rfl
  · rw [exec_of_validReply h, postOf, postRelay, relayDecode_getLsbD, relayLines_of_bits]

theorem beepLine_text :
    ascii "short beep" ++ ascii " (stored)" = ascii "short beep (stored)" ∧
    ascii "continual beep" ++ ascii " (stored)" = ascii "continual beep (stored)" := by
  decide

/-- Settles O34: the record by the five bits, and a line for each of the four below. -/
theorem buzzerReplyIsDecoded : Obligations.BuzzerReplyIsDecoded := by
  unfold Obligations.BuzzerReplyIsDecoded
  intro s h
  obtain ⟨hshort, hcontinual⟩ := beepLine_text
  rw [exec_of_validReply h, postOf, postBuzzer, buzzerDecode_getLsbD]
  simp only [buzzerLines, beepLine, hshort, hcontinual]

/-- The line of a tick count, by its band (R125, R126). -/
def pulseLine (n : Nat) : Text :=
  if n = 0 then ascii "default (3 seconds)"
  else if n ≤ 19 then dec n ++ ascii " (" ++ dec (50 * n) ++ ascii " ms)"
  else if n = 20 then ascii "20 (1 second)"
  else dec n ++ ascii " (" ++ sec2 n ++ ascii " seconds)"

theorem pulseLines_eq (n : Nat) : pulseLines n = [pulseLine n] := by
  unfold pulseLines pulseBand pulseLine
  split_ifs <;> rfl

/-- Settles O36: the line of the band. -/
theorem pulseReplyIsDecoded : Obligations.PulseReplyIsDecoded := by
  unfold Obligations.PulseReplyIsDecoded
  rintro s n h rfl
  refine ⟨pulseLine s.rxbuf.p2.toNat, ?_, fun h0 => ?_, fun h1 h19 => ?_, fun h20 => ?_,
    fun h21 => ?_⟩
  · rw [exec_of_validReply h, postOf, postPulse, pulseDecode, pulseLines_eq]
  · rw [pulseLine, if_pos h0]
  · rw [pulseLine, if_neg (by omega), if_pos h19]
  · rw [pulseLine, if_neg (by omega), if_neg (by omega), if_pos h20]
  · rw [pulseLine, if_neg (by omega), if_neg (by omega), if_neg (by omega)]

/-! ### Temperature -/

/-- `sext_8` is the one integer from -128 to 127 congruent to the byte. -/
theorem sext8_eq {b : Byte} {t : Int} (hlo : -128 ≤ t) (hhi : t ≤ 127) (hmod : t % 256 = b.toNat) :
    sext8 b = t := by
  unfold sext8
  have := b.isLt
  split <;> omega

/-- Settles O37: the byte TEMP_BYTE selects, read as `sext8_eq` says. -/
theorem temperatureReplyIsSigned : Obligations.TemperatureReplyIsSigned := by
  unfold Obligations.TemperatureReplyIsSigned
  intro s b t h hbyte hlo hhi hmod
  have hfield : tempField s.config s.rxbuf = b := by
    rcases hbyte with ⟨hsel, rfl⟩ | ⟨hsel, rfl⟩ <;> simp [tempField, hsel]
  rw [exec_of_validReply h, postOf, postTemp, hfield, tempDecode, sext8_eq hlo hhi hmod]
  rfl

end Sys2Proof.Machine
end

section
/-! Whole exchanges (41_exchange.md R68 to R74, R78): the command in flight from ACCEPT to the end of its
exchange, with no reset pending. -/

namespace Sys2Proof.Machine

/-! ### A command in flight -/

/-- The command `i` is in flight, no reset is pending and no register holds a never-written encoding;
STATE is said beside it. -/
structure State.Running (s : State) (i : Instr) : Prop where
  config : s.config.wellFormed = true
  rst : s.rst = []
  encodings : s.act.toNat < 17 ∧ s.result.toNat < 12 ∧ s.fcause.toNat < 5
  inFlight : s.inFlight = some i

theorem State.noReset_of_rst_nil {s : State} (h : s.rst = []) : s.noReset = s := by
  rw [State.noReset, h, List.tail_nil, ← h]

section
variable {s t : State} {i : Instr}

theorem State.Running.step_eq (h : s.Running i) (hs : s.state = 1 ∨ s.state = 2 ∨ s.state = 3) :
    step s = exec i s := by
  have hstate : s.state.toNat < 5 := by rcases hs with e | e | e <;> rw [e] <;> decide
  have hlive : s.Live :=
    ⟨h.config, by rw [State.resetAsserted, h.rst]; rfl,
      (State.neverWritten_eq_none_iff s).2 ⟨hstate, h.encodings⟩⟩
  rw [step_of_inFlight hlive hs h.inFlight, State.noReset_of_rst_nil h.rst]

/-- The channel steps write none of what `State.Running` speaks of. -/
theorem State.Running.of_eq (h : s.Running i) (hreq : t.request = s.request) (hrst : t.rst = s.rst)
    (hresult : t.result = s.result) (hfcause : t.fcause = s.fcause) : t.Running i := by
  simp only [State.request, Prod.mk.injEq] at hreq
  obtain ⟨hact, hkind, htx, -, hconfig⟩ := hreq
  refine ⟨hconfig ▸ h.config, hrst.trans h.rst, by rw [hact, hresult, hfcause]; exact h.encodings, ?_⟩
  rw [← h.inFlight, State.inFlight, hact, hkind, htx]
  rfl

variable {o : Offer} {cmds : List Offer}

theorem State.Running.of_accept (hlive : s.Live) (hrst : s.rst = []) :
    ((s.takeOffer o cmds).accept (requestOf s.config i)).Running i := by
  obtain ⟨-, -, hresult, hfcause⟩ := (State.neverWritten_eq_none_iff s).1 hlive.encodings
  exact ⟨hlive.config, hrst, ⟨Action.code_lt _, hresult, hfcause⟩, inFlight_accept _ _ i⟩

theorem step_accept_of_rst_nil (hlive : s.Live) (hrst : s.rst = []) (h0 : s.state = 0)
    (hcmd : s.cmd = o :: cmds) (hp : plan s.config o.act o.arg = .tx i) :
    step s = .next ((s.takeOffer o cmds).accept (requestOf s.config i)) := by
  rw [step_of_planned hlive h0 hcmd hp, State.noReset_of_rst_nil hrst]

end

/-! ### The exchange that succeeds -/

/-- WRITE after ok(6): the whole request is with the card. -/
def State.sentRequest (s : State) (rest : List WriteAnswer) : State :=
  { s with
    chw := rest
    ports := s.ports ++ [.chanWrite s.txbuf (.ok 6) s.txbuf.bytes]
    state := 2 }

/-- READ after six bytes: they are the reply. -/
def State.gotReply (s : State) (rest : List ReadAnswer) (p : Packet) : State :=
  { s with
    chr := rest
    ports := s.ports ++ [.chanRead 6 (.ok p.bytes)]
    rxbuf := p
    rxcnt := 6
    state := 3 }

section
variable {s : State} {i : Instr}

theorem State.Running.step_sentRequest (h : s.Running i) (h1 : s.state = 1) {n : Fin 7}
    {rest : List WriteAnswer} (hchw : s.chw = ⟨.ok 6, n⟩ :: rest) :
    step s = .next (s.sentRequest rest) ∧ (s.sentRequest rest).Running i := by
  refine ⟨?_, h.of_eq rfl rfl rfl rfl⟩
  rw [h.step_eq (.inl h1), exec_of_write i h1, writeStep_of_answer hchw]
  rfl

theorem State.Running.step_gotReply (h : s.Running i) (h2 : s.state = 2) {p : Packet}
    {rest : List ReadAnswer} (hchr : s.chr = .ok p.bytes :: rest) :
    step s = .next (s.gotReply rest p) ∧ (s.gotReply rest p).Running i := by
  refine ⟨?_, h.of_eq rfl rfl rfl rfl⟩
  have hfull : ¬ (p.bytes.length < 6 ∧
      ({ s with chr := rest }.post (.chanRead 6 (.ok p.bytes))).shortReadFatal = true) :=
    fun hshort => absurd hshort.1 (lt_irrefl 6)
  rw [h.step_eq (.inr (.inl h2)), exec_of_read i h2, readStep_of_answer hchr,
    atMostSix_of_le (le_refl 6), afterRead_ok, if_neg hfull]
  rfl

theorem State.Running.step_answered (h : s.Running i) (hv : s.HasValidReply) :
    step s = .next (s.answered (postOf i s.config s.rxbuf).fields
      (postOf i s.config s.rxbuf).lines) := by
  rw [h.step_eq (.inr (.inr hv.1)), exec_of_validReply hv]

/-- The three steps after ACCEPT, when the write completes and the reply echoes the opcode. -/
theorem State.Running.run_answered (h : s.Running i) (h1 : s.state = 1) {n : Fin 7}
    {was : List WriteAnswer} {ras : List ReadAnswer} {p : Packet}
    (hchw : s.chw = ⟨.ok 6, n⟩ :: was) (hchr : s.chr = .ok p.bytes :: ras) (hp : p.p0 = s.sentOpc) :
    ∃ fields lines, Host.Core.run Sys2Proof.core 3 s =
      .next (((s.sentRequest was).gotReply ras p).answered fields lines) := by
  obtain ⟨hwrite, hsent⟩ := h.step_sentRequest h1 hchw
  obtain ⟨hread, hgot⟩ := hsent.step_gotReply rfl (rest := ras) hchr
  have hcheck := hgot.step_answered ⟨rfl, rfl, hp⟩
  exact ⟨_, _, (run_succ 2 hwrite).trans ((run_succ 1 hread).trans (run_succ 0 hcheck))⟩

end

/-- Settles O58: ACCEPT, and `State.Running.run_answered` from there. -/
theorem validExchangeRunsThrough : Obligations.ValidExchangeRunsThrough := by
  unfold Obligations.ValidExchangeRunsThrough
  intro s o cmds i n was b1 b2 b3 b4 b5 ras hlive hrst h0 hcmd hp hchw hchr
  have haccept := step_accept_of_rst_nil hlive hrst h0 hcmd hp
  have hrun : ((s.takeOffer o cmds).accept (requestOf s.config i)).Running i := .of_accept hlive hrst
  rw [State.accept_of_plan _ hp] at haccept hrun
  obtain ⟨fields, lines, hend⟩ := hrun.run_answered rfl
    (p := ⟨opcodeOf s.config i, b1, b2, b3, b4, b5⟩) hchw hchr rfl
  refine ⟨fields, lines, (run_succ 3 haccept).trans (hend.trans ?_)⟩
  simp only [State.answered, State.gotReply, State.sentRequest, State.takeOffer_ports,
    List.append_assoc]
  rfl

/-! ### Every exchange ends -/

@[simp] theorem writeCount_append (a b : List PortEvent) :
    writeCount (a ++ b) = writeCount a + writeCount b := List.countP_append

@[simp] theorem readCount_append (a b : List PortEvent) :
    readCount (a ++ b) = readCount a + readCount b := List.countP_append

@[simp] theorem resCount_append (a b : List PortEvent) :
    resCount (a ++ b) = resCount a + resCount b := List.countP_append

/-- How a command ends: in IDLE with one RES record more than `before`, or in FATAL with none. -/
def EndedSince (before : List PortEvent) (t : State) : Prop :=
  (t.state = 0 ∧ resCount t.ports = resCount before + 1 ∧
      (t.result = 1 ∨ t.result = 2 ∨ t.result = 3)) ∨
    (t.state = 4 ∧ resCount t.ports = resCount before ∧ (t.result = 10 ∨ t.result = 11))

theorem EndedSince.congr {a b : List PortEvent} {t : State} (h : EndedSince a t)
    (hab : resCount a = resCount b) : EndedSince b t := by
  unfold EndedSince at h ⊢
  rwa [← hab]

/-- Within `k` steps of `s` the command ends, after exactly `w` writes and at most `r` reads. -/
def EndsWithin (k : Nat) (s : State) (w r : Nat) : Prop :=
  ∃ j t, j ≤ k ∧ Host.Core.run Sys2Proof.core j s = .next t ∧
    writeCount t.ports = writeCount s.ports + w ∧ readCount t.ports ≤ readCount s.ports + r ∧
    EndedSince s.ports t

/-- One step in front of an exchange that ends. -/
theorem EndsWithin.after_step {k w r : Nat} {s t : State} {new : List PortEvent}
    (h : step s = .next t) (hports : t.ports = s.ports ++ new) (hres : resCount new = 0)
    (hend : EndsWithin k t w r) :
    EndsWithin (k + 1) s (writeCount new + w) (readCount new + r) := by
  obtain ⟨j, t', hj, hrun, hw, hr, hended⟩ := hend
  rw [hports, writeCount_append] at hw
  rw [hports, readCount_append] at hr
  have hcount : resCount t.ports = resCount s.ports := by
    rw [hports, resCount_append, hres, Nat.add_zero]
  exact ⟨j + 1, t', by omega, by rw [run_succ j h, hrun], by omega, by omega, hended.congr hcount⟩

theorem EndsWithin.mono {k k' w r r' : Nat} {s : State} (h : EndsWithin k s w r) (hk : k ≤ k')
    (hr : r ≤ r') : EndsWithin k' s w r' := by
  obtain ⟨j, t, hj, hrun, hw, hread, hended⟩ := h
  exact ⟨j, t, by omega, hrun, hw, by omega, hended⟩

/-- A fatal stop is an end. -/
theorem endsWithin_of_raise_fatal (s : State) (c : FatalCause) :
    EndsWithin 0 (s.raise (.fatal c)) 0 0 := by
  obtain ⟨-, -, -, hrow⟩ := c.codes
  exact ⟨0, _, le_rfl, rfl, rfl, le_rfl, .inr ⟨rfl, rfl, hrow.imp And.left And.left⟩⟩

section
variable {s : State} {i : Instr}

/-- CHECK ends the command, whatever the reply. -/
theorem endsWithin_of_check (h : s.Running i) (h3 : s.state = 3) : EndsWithin 1 s 0 0 := by
  have hstep := (h.step_eq (.inr (.inr h3))).trans (exec_of_check i h3)
  refine ⟨1, _, le_rfl, run_succ 0 hstep, ?_⟩
  cases hv : s.replyValid with
  | true =>
    rw [State.check_valid _ _ hv]
    exact ⟨by simp [writeCount], by simp [readCount], .inl ⟨rfl, by simp [resCount], .inl rfl⟩⟩
  | false =>
    rw [State.check_invalid _ _ hv]
    have hcode : s.invalidCode.code = 1 ∨ s.invalidCode.code = 2 ∨ s.invalidCode.code = 3 := by
      rcases invalidCode_cases s with e | e <;> rw [e] <;> decide
    refine ⟨?_, ?_, .inl ⟨rfl, ?_, hcode⟩⟩ <;> cases s.warnOnInvalid <;>
      simp [writeCount, readCount, resCount]

/-- READ ends the command or leads to CHECK, whatever the channel answers. -/
theorem endsWithin_of_read {ra : ReadAnswer} {ras : List ReadAnswer} (h : s.Running i)
    (h2 : s.state = 2) (hchr : s.chr = ra :: ras) : EndsWithin 2 s 0 1 := by
  have hstep := (h.step_eq (.inr (.inl h2))).trans
    ((exec_of_read i h2).trans (readStep_of_answer hchr))
  generalize ra.atMostSix = a at hstep
  have read : ∀ {t k}, step s = .next t → t.ports = s.ports ++ [.chanRead 6 a] → k ≤ 1 →
      EndsWithin k t 0 0 → EndsWithin 2 s 0 1 := fun ht hports hk hend =>
    (hend.after_step ht hports rfl).mono (by omega) le_rfl
  obtain ⟨-, hr⟩ | ⟨b, -, -, -, hr⟩ | ⟨b, -, -, hr⟩ :=
    State.afterRead_cases a ({ s with chr := ras }.post (.chanRead 6 a)) <;> rw [hr] at hstep
  · exact read hstep rfl (by omega) (endsWithin_of_raise_fatal _ _)
  · exact read hstep rfl (by omega) (endsWithin_of_raise_fatal _ _)
  · exact read hstep rfl le_rfl (endsWithin_of_check (h.of_eq rfl rfl rfl rfl) rfl)

/-- WRITE ends the command or leads to READ, whatever the channel answers. -/
theorem endsWithin_of_write {wa : WriteAnswer} {was : List WriteAnswer} {ra : ReadAnswer}
    {ras : List ReadAnswer} (h : s.Running i) (h1 : s.state = 1) (hchw : s.chw = wa :: was)
    (hchr : s.chr = ra :: ras) : EndsWithin 3 s 1 1 := by
  have hstep := (h.step_eq (.inl h1)).trans ((exec_of_write i h1).trans (writeStep_of_answer hchw))
  generalize wa.delivered s.txbuf = d at hstep
  have wrote : ∀ {t k r}, step s = .next t → t.ports = s.ports ++ [.chanWrite s.txbuf wa.result d] →
      k ≤ 2 → r ≤ 1 → EndsWithin k t 0 r → EndsWithin 3 s 1 1 := fun ht hports hk hr hend =>
    (hend.after_step ht hports rfl).mono (by omega) (by simpa [readCount] using hr)
  obtain ⟨-, hw⟩ | ⟨c, -, -, hw⟩ | ⟨-, hw⟩ := State.afterWrite_cases wa.result
    ({ s with chw := was }.post (.chanWrite s.txbuf wa.result d)) <;> rw [hw] at hstep
  · exact wrote hstep rfl le_rfl le_rfl (endsWithin_of_read (h.of_eq rfl rfl rfl rfl) rfl hchr)
  · exact wrote hstep rfl (by omega) (by omega) (endsWithin_of_raise_fatal _ _)
  · exact wrote hstep rfl (by omega) (by omega) (endsWithin_of_raise_fatal _ _)

end

/-- Settles O59: ACCEPT in front of the exchange. -/
theorem commandEndsWhenChannelAnswers : Obligations.CommandEndsWhenChannelAnswers := by
  unfold Obligations.CommandEndsWhenChannelAnswers
  intro s o cmds i wa was ra ras hlive hrst h0 hcmd hp hchw hchr
  have hend : EndsWithin 3 ((s.takeOffer o cmds).accept (requestOf s.config i)) 1 1 :=
    endsWithin_of_write (.of_accept hlive hrst) rfl hchw hchr
  exact hend.after_step (new := [.cmd o]) (step_accept_of_rst_nil hlive hrst h0 hcmd hp) rfl rfl

end Sys2Proof.Machine
end
